-- ==== Sys2Proof/Word.lean ====
section
/-! DEFINITION. The two word types of the block (00_scope.md R7, 20_memory.md R40). -/

namespace Sys2Proof

/-- A byte is 8 bits, bit 0 the least significant (R7); the host port moves exactly one (R44). -/
abbrev Byte := BitVec 8

/-- A register address of the space REG: 6 bits, 64 locations (R40). -/
abbrev Addr := BitVec 6

end Sys2Proof
end

