-- ==== Sys2Proof/Config.lean ====
section
/-! DEFINITION. The implementation parameters of 00_scope.md R6 (93_implementation_defined.md U24). -/

namespace Sys2Proof

/-- The two open parameters of R6. Everything else of R6 is fixed or derived from these.
DESIGN CHOICE (log 5): a value of this type stands in `State` and no step changes it, so that a statement
about every state is a statement about every choice of the parameters. -/
structure Config where
  /-- TICK_HZ: TICK events per second of real time. -/
  tickHz : Nat
  /-- CHECK_DEVID: whether ENCODE checks 1 ≤ DEVID ≤ 99. -/
  checkDevid : Bool
  deriving DecidableEq, Repr

/-- The defaults of R6: TICK_HZ = 1000, CHECK_DEVID = true. -/
def Config.default : Config := { tickHz := 1000, checkDevid := true }

end Sys2Proof
end

