-- ==== Sys2Proof/Syntax.lean ====
section
/-! DEFINITION. The operations of the block: one constructor per row of spec/opcode_table.json (30_encoding.md R79).
An operation carries no operand: the selectors B and L are fixed in its word and every other operand comes from
registers (R75). -/

namespace Sys2Proof

inductive Instr where
  /-- NOP, word 0x00 (R130). -/
  | nop
  /-- ENCODE, word 0x01 (R95). -/
  | encode
  /-- CKSUM.T, word 0x02 (R100). -/
  | cksumT
  /-- CKSUM.R, word 0x03 (R101). -/
  | cksumR
  /-- DECODE, word 0x04 (R102). -/
  | decode
  /-- RXCLR, word 0x05 (R131). -/
  | rxclr
  /-- CLRERR, word 0x06 (R132). -/
  | clrerr
  /-- ACQUIRE.N, word 0x08 (R119). -/
  | acquireN
  /-- ACQUIRE.F, word 0x09 (R120). -/
  | acquireF
  /-- SRST, word 0x0F (R133). -/
  | srst
  deriving DecidableEq, Repr

end Sys2Proof
end

