-- ==== Sys2Proof/WellFormed.lean ====
section
/-! DEFINITION. Well-formedness of operations and of the parameters. -/

namespace Sys2Proof

/-- An operation has no operand that could be out of range (30_encoding.md R75), so each is well formed. -/
def Instr.wellFormed : Instr → Bool
  | .nop => true
  | .encode => true
  | .cksumT => true
  | .cksumR => true
  | .decode => true
  | .rxclr => true
  | .clrerr => true
  | .acquireN => true
  | .acquireF => true
  | .srst => true

/-- R6: TICK_HZ is a positive multiple of 10, at most 131070 (so that INTERVAL[0] fits 16 bits). -/
def Config.wellFormed (c : Config) : Bool :=
  decide (0 < c.tickHz) && decide (c.tickHz % 10 = 0) && decide (c.tickHz ≤ 131070)

end Sys2Proof
end

