-- ==== Sys2Proof/Decode.lean ====
section
/-! DEFINITION. The operation word (30_encoding.md R75 to R81): the decoder, total on all 256 bytes and refusing the
reserved ones by name, and the encoder written from the three formats. -/

namespace Sys2Proof

/-- Why a byte is no operation word. -/
inductive DecodeError where
  /-- One of the 246 reserved words of R80. -/
  | reservedWord (w : Byte)
  deriving DecidableEq, Repr

/-- Bit 0 of an operation word: the selector B of format C (R77), L of format A (R78). -/
def selector (w : Byte) : BitVec 1 := w.extractLsb' 0 1

/-- Format C (R77): B = 0 selects TXF, B = 1 selects RXF. -/
def decodeFormatC (b : BitVec 1) : Instr := if b = 0#1 then .cksumT else .cksumR

/-- Format A (R78): L = 0 is NORMAL, L = 1 is FAST. -/
def decodeFormatA (l : BitVec 1) : Instr := if l = 0#1 then .acquireN else .acquireF

/-- Format O (R76): equality on all 8 bits, with the words of R79. -/
def decodeFormatO (w : Byte) : Except DecodeError Instr :=
  if w = 0x00#8 then .ok .nop
  else if w = 0x01#8 then .ok .encode
  else if w = 0x04#8 then .ok .decode
  else if w = 0x05#8 then .ok .rxclr
  else if w = 0x06#8 then .ok .clrerr
  else if w = 0x0F#8 then .ok .srst
  else .error (.reservedWord w)

/-- The operation map of R79, read by format (R75): one byte is read and looked up, and nothing else (R81). -/
def decode (w : Byte) : Except DecodeError Instr :=
  if w &&& 0xFE#8 = 0x02#8 then .ok (decodeFormatC (selector w))
  else if w &&& 0xFE#8 = 0x08#8 then .ok (decodeFormatA (selector w))
  else decodeFormatO w

/-- Format O of R75: bits 7:4 zero, bits 3:0 the opcode. -/
def wordFormatO (opcode : BitVec 4) : Byte := 0b0000#4 ++ opcode

/-- Format C of R75: bits 7:4 zero, bits 3:1 = 001, bit 0 = B. -/
def wordFormatC (b : BitVec 1) : Byte := 0b0000#4 ++ 0b001#3 ++ b

/-- Format A of R75: bits 7:4 zero, bits 3:1 = 100, bit 0 = L. -/
def wordFormatA (l : BitVec 1) : Byte := 0b0000#4 ++ 0b100#3 ++ l

/-- The operation word of an operation (R79, R83). -/
def encode : Instr → Byte
  | .nop => wordFormatO 0b0000#4
  | .encode => wordFormatO 0b0001#4
  | .cksumT => wordFormatC 0#1
  | .cksumR => wordFormatC 1#1
  | .decode => wordFormatO 0b0100#4
  | .rxclr => wordFormatO 0b0101#4
  | .clrerr => wordFormatO 0b0110#4
  | .acquireN => wordFormatA 0#1
  | .acquireF => wordFormatA 1#1
  | .srst => wordFormatO 0b1111#4

/-- The first byte of an instruction given as a number of `nbits` bits. Every operation word is one byte (R75). -/
def tableByte (nbits w : Nat) : Byte := BitVec.ofNat 8 (w % 2 ^ nbits)

/-- What `decode` reads from a word numbered as spec/opcode_table.json numbers it. -/
def decodeTableWord (nbits w : Nat) : Option Instr :=
  match decode (tableByte nbits w) with
  | .ok i => some i
  | .error _ => none

end Sys2Proof
end

