-- ==== Sys2Proof/Machine/Protocol.lean ====
section
/-! DEFINITION. The protocol constants (00_scope.md R5) and the pure functions of the codec (40_codec_ops.md R90 to R94). -/

namespace Sys2Proof.Machine

/-- FRAME_LEN: bytes in a frame (R5, R71). -/
abbrev frameLen : Nat := 11
/-- PAYLOAD_MAX: payload bytes in a command (R5). -/
abbrev payloadMax : Nat := 7
/-- HDR0 (R5, R61). -/
abbrev hdr0 : Byte := 0xFF#8
/-- HDR1 (R5, R61). -/
abbrev hdr1 : Byte := 0xFF#8
/-- DEVID_MIN (R5, R62). -/
abbrev devidMin : Nat := 1
/-- DEVID_MAX (R5, R62). -/
abbrev devidMax : Nat := 99
/-- CK_BASE (R5, R64). -/
abbrev ckBase : Int := 0x80
/-- CK_MASK (R5, R64). -/
abbrev ckMask : Byte := 0x7F#8

/-- The low 7 bits of a byte, `b & 0x7F`, as a number (R7). -/
def low7 (b : Byte) : Nat := (b &&& ckMask).toNat

/-- S of R90: the exact sum of the low 7 bits of ten bytes. -/
def sum7 (s : Vector Byte 10) : Nat := (s.toList.map low7).sum

/-- R90: `cksum7(s) = (0x80 - S) mod 128`, the subtraction taken in the integers (R8). -/
def cksum7 (s : Vector Byte 10) : BitVec 7 := BitVec.ofInt 7 (ckBase - sum7 s)

/-- The 7-bit checksum zero-extended to a byte, as it stands in frame byte 10 (R60). -/
def ckByte (s : Vector Byte 10) : Byte := (cksum7 s).zeroExtend 8

/-- R92: the first `n` staging bytes, then 0x00. -/
def pad7 (p : Vector Byte 7) (n : Nat) : Vector Byte 7 := Vector.ofFn fun i => if i.val < n then p[i] else 0x00#8

/-- The ten bytes a frame's checksum covers (R93, `body`): `[0xFF, 0xFF, id] ++ pad7(p, n)`. -/
def frameBody (id : Byte) (p : Vector Byte 7) (n : Nat) : Vector Byte 10 :=
  let q := pad7 p n
  #v[hdr0, hdr1, id, q[0], q[1], q[2], q[3], q[4], q[5], q[6]]

/-- R93: header, device id, padded payload, checksum. -/
def buildFrame (id : Byte) (p : Vector Byte 7) (n : Nat) : Vector Byte 11 :=
  (frameBody id p n).push (ckByte (frameBody id p n))

/-- Bytes 0 to 9 of a frame. -/
def bodyOf (f : Vector Byte 11) : Vector Byte 10 := f.pop

/-- R94: the recomputed checksum, zero-extended, equals byte 10 on all 8 bits. -/
def frameOk (f : Vector Byte 11) : Bool := ckByte (bodyOf f) == f[10]

/-- R66: the status is the low 3 bits of response byte 3. -/
def statusOf (f : Vector Byte 11) : BitVec 3 := f[3].extractLsb' 0 3

end Sys2Proof.Machine
end

