-- ==== Sys2Proof/Machine/State.lean ====
section
/-! DEFINITION. The state of the block (10_state.md R10) as plain data, the agents around it (20_memory.md R50), the
reasons a step can stop, and the state after reset (70_reset_and_hazards.md R181). -/

namespace Sys2Proof.Machine

/-- The two limiters, R110: limiter_id 0 is NORMAL, 1 is FAST. -/
inductive Limiter where
  | normal
  | fast
  deriving DecidableEq, Repr

/-- A transaction of the host port: `RD a` (R42) or `WR a, v` (R43). -/
inductive HostTx where
  | rd (a : Addr)
  | wr (a : Addr) (v : Byte)
  deriving DecidableEq, Repr

/-- Who performs a step, R50. `reset` is the environment. -/
inductive Agent where
  | host
  | linkRx
  | linkTx
  | tick
  | reset
  deriving DecidableEq, Repr

/-- What the host port shows in one step (R51, R82, R155). -/
inductive PortOut where
  /-- No response in this step. -/
  | silent
  /-- `=> OK` -/
  | ok
  /-- `=> OK, d`: a read's data. -/
  | okData (d : Byte)
  /-- `=> ERR` to a write. -/
  | err
  /-- `=> ERR` to a read, with the data it returns. -/
  | errData (d : Byte)
  /-- `=> hold`: the response is withheld (R111). -/
  | hold
  deriving DecidableEq, Repr

/-- What the agents around the block will do (R34 calls it environment, not state of the block).
DESIGN CHOICE (log 2): held as plain data, so that the step is one function of the state; a statement over every
state covers every host script, every response and every interleaving (R52). -/
structure Env where
  /-- The transactions the host will issue, in the order it issues them. -/
  host : List HostTx
  /-- The bytes LINK-RX will deliver, in arrival order. -/
  rx : List Byte
  /-- Whose turn comes next, the next one first. -/
  sched : List Agent
  deriving DecidableEq, Repr

/-- The architectural state of one block, R10, field by field; then the parameters, the environment and the outputs
of the last step, which are the model's own fields (log 2, 4, 5). -/
structure State where
  /-- PAY[0..6], R11. -/
  pay : Vector Byte 7
  /-- PLEN, R13. -/
  plen : Byte
  /-- DEVID, R14. -/
  devid : Byte
  /-- TXF[0..10], R15. -/
  txf : Vector Byte 11
  /-- TXIDX, R16. -/
  txidx : BitVec 4
  /-- TXV, R17. -/
  txv : Bool
  /-- RXF[0..10], R18. -/
  rxf : Vector Byte 11
  /-- RXCNT, R19. -/
  rxcnt : BitVec 4
  /-- ROVR, R20. -/
  rovr : Bool
  /-- CKCALC, R21. -/
  ckcalc : BitVec 7
  /-- CKRECV, R22. -/
  ckrecv : Byte
  /-- RXOK, R23. -/
  rxok : Bool
  /-- RSTAT, R24. -/
  rstat : BitVec 3
  /-- ERRC, R27. -/
  errc : BitVec 3
  /-- ERRFLG.EIA, R28 bit 0. -/
  eia : Bool
  /-- ERRFLG.ECK, R28 bit 1. -/
  eck : Bool
  /-- ERRFLG.EMF, R28 bit 2. -/
  emf : Bool
  /-- ERRFLG.TXOVW, R28 bit 3. -/
  txovw : Bool
  /-- LIMCNT[0], R29. -/
  limcntN : BitVec 16
  /-- LIMCNT[1], R29. -/
  limcntF : BitVec 16
  /-- ACQP, R30. -/
  acqp : Bool
  /-- ACQL, R30. -/
  acql : Limiter
  /-- The parameters of R6; no step changes them. -/
  cfg : Config
  /-- The environment of R34. -/
  env : Env
  /-- What the host port showed in the last step (log 4). -/
  port : PortOut
  /-- The byte LINK-TX took in the last step, if it took one (log 4). -/
  line : Option Byte
  deriving DecidableEq, Repr

/-- Why a step stops. No operation of the block stops: its faults are next states (R155). -/
inductive Fault where
  /-- Raised by a byte take with TXV = 1 and TXIDX above 10, a state that R16 and R17 say never occurs: there is no
  byte to return. SAFE: no state that meets the invariant R35 reaches it (log 8). -/
  | txIndexOutOfFrame
  deriving DecidableEq, Repr

/-- Why an instruction is refused. -/
inductive Refusal where
  /-- Raised by an arm of `exec` that has no meaning yet. SAFE. No arm uses it. -/
  | notModelled (mnemonic : String)
  deriving DecidableEq, Repr

/-- R181: every register and flag is 0 after reset, LIMCNT and ACQP and ACQL too; the parameters at the defaults of
R6; no agent has anything to do yet, and nothing has been output. -/
def State.reset : State where
  pay := Vector.replicate 7 0#8
  plen := 0#8
  devid := 0#8
  txf := Vector.replicate 11 0#8
  txidx := 0#4
  txv := false
  rxf := Vector.replicate 11 0#8
  rxcnt := 0#4
  rovr := false
  ckcalc := 0#7
  ckrecv := 0#8
  rxok := false
  rstat := 0#3
  errc := 0#3
  eia := false
  eck := false
  emf := false
  txovw := false
  limcntN := 0#16
  limcntF := 0#16
  acqp := false
  acql := .normal
  cfg := Config.default
  env := { host := [], rx := [], sched := [] }
  port := .silent
  line := none

end Sys2Proof.Machine
end

