-- ==== Sys2Proof/Machine/Flags.lean ====
section
/-! DEFINITION. The flag views: STATUS (10_state.md R25), RACC (R26), ERRFLG (R28). -/

namespace Sys2Proof.Machine

/-- One flag as one bit. -/
def flag (b : Bool) : BitVec 1 := BitVec.ofBool b

/-- R26: RXOK and a status of 3 (ACCEPTED) or 4 (ACCEPTED_NOT_COMPLETE). -/
def racc (s : State) : Bool := s.rxok && (s.rstat == 3#3 || s.rstat == 4#3)

/-- STATUS bit 2, RXFULL: RXCNT = 11 (R19, R25). -/
def rxfull (s : State) : Bool := s.rxcnt == 11#4

/-- STATUS bit 5, TOKN: LIMCNT[0] = 0 (R25). -/
def tokN (s : State) : Bool := s.limcntN == 0#16

/-- STATUS bit 6, TOKF: LIMCNT[1] = 0 (R25). -/
def tokF (s : State) : Bool := s.limcntF == 0#16

/-- STATUS bit 0, ERR: ERRC ≠ 0 (R25). -/
def errBit (s : State) : Bool := s.errc != 0#3

/-- The STATUS view of R25, bit 7 first. -/
def statusView (s : State) : Byte :=
  flag s.rovr ++ flag (tokF s) ++ flag (tokN s) ++ flag (racc s) ++ flag s.rxok ++ flag (rxfull s) ++ flag s.txv
    ++ flag (errBit s)

/-- The ERRFLG register of R28, bit 7 first: bits 7:4 read 0. -/
def errflgView (s : State) : Byte := 0b0000#4 ++ flag s.txovw ++ flag s.emf ++ flag s.eck ++ flag s.eia

end Sys2Proof.Machine
end

