-- ==== Sys2Proof/Machine/Operands.lean ====
section
/-! DEFINITION. The register map (20_memory.md R41): which location an address names, what a read of it gives, what a
plain register write stores; and the selectors of the operations (30_encoding.md R77, R78). -/

namespace Sys2Proof.Machine

/-- The locations of the register map R41. -/
inductive Loc where
  | cmd
  | status
  | errc
  | errflg
  | devid
  | plen
  | ckcalc
  | ckrecv
  | pay (i : Fin 7)
  | rstat
  | txf (i : Fin 11)
  | txidx
  | rxf (i : Fin 11)
  | rxcnt
  | rxpush
  /-- 0x1C to 0x1F and 0x2D to 0x3F (R46). -/
  | reserved
  deriving DecidableEq, Repr

/-- What the host port allows at a location (R41). -/
inductive Access where
  | rw
  | ro
  | wo
  | none
  deriving DecidableEq, Repr

/-- The register map R41: address 0x08 + i is PAY[i], 0x10 + i is TXF[i], 0x20 + i is RXF[i]. -/
def locOf (a : Addr) : Loc :=
  let n := a.toNat
  if n = 0x00 then .cmd
  else if n = 0x01 then .status
  else if n = 0x02 then .errc
  else if n = 0x03 then .errflg
  else if n = 0x04 then .devid
  else if n = 0x05 then .plen
  else if n = 0x06 then .ckcalc
  else if n = 0x07 then .ckrecv
  else if h : 0x08 ≤ n ∧ n ≤ 0x0E then .pay ⟨n - 0x08, by omega⟩
  else if n = 0x0F then .rstat
  else if h : 0x10 ≤ n ∧ n ≤ 0x1A then .txf ⟨n - 0x10, by omega⟩
  else if n = 0x1B then .txidx
  else if h : 0x20 ≤ n ∧ n ≤ 0x2A then .rxf ⟨n - 0x20, by omega⟩
  else if n = 0x2B then .rxcnt
  else if n = 0x2C then .rxpush
  else .reserved

/-- The access column of R41. -/
def Loc.access : Loc → Access
  | .cmd => .wo
  | .status => .ro
  | .errc => .ro
  | .errflg => .ro
  | .devid => .rw
  | .plen => .rw
  | .ckcalc => .ro
  | .ckrecv => .ro
  | .pay _ => .rw
  | .rstat => .ro
  | .txf _ => .ro
  | .txidx => .ro
  | .rxf _ => .ro
  | .rxcnt => .ro
  | .rxpush => .wo
  | .reserved => .none

/-- The value a read of a location gives, zero-extended to a byte (R42); none where the location cannot be read. -/
def readLoc (s : State) : Loc → Option Byte
  | .cmd => Option.none
  | .status => some (statusView s)
  | .errc => some (s.errc.zeroExtend 8)
  | .errflg => some (errflgView s)
  | .devid => some s.devid
  | .plen => some s.plen
  | .ckcalc => some (s.ckcalc.zeroExtend 8)
  | .ckrecv => some s.ckrecv
  | .pay i => some s.pay[i]
  | .rstat => some (s.rstat.zeroExtend 8)
  | .txf i => some s.txf[i]
  | .txidx => some (s.txidx.zeroExtend 8)
  | .rxf i => some s.rxf[i]
  | .rxcnt => some (s.rxcnt.zeroExtend 8)
  | .rxpush => Option.none
  | .reserved => Option.none

/-- What a read of address `a` would give now; none where the read faults. -/
def readAddr (s : State) (a : Addr) : Option Byte := readLoc s (locOf a)

/-- The counter LIMCNT[l] (R29). -/
def State.limcnt (s : State) : Limiter → BitVec 16
  | .normal => s.limcntN
  | .fast => s.limcntF

/-- Write of LIMCNT[l]. -/
def State.setLimcnt (s : State) (l : Limiter) (v : BitVec 16) : State :=
  match l with
  | .normal => { s with limcntN := v }
  | .fast => { s with limcntF := v }

end Sys2Proof.Machine
end

