-- ==== Sys2Proof/Machine/Ops.lean ====
section
/-! DEFINITION. The shared operations: responses, taking a fault (60_exceptions.md R155) and returning from one (R161),
byte delivery and byte take (42_stream_system_ops.md R134, R136), loading a frame (40_codec_ops.md R95), clearing the
receive side (R131), the limiter's interval, hold and TICK (41_limiter_ops.md R111 to R115), reset (70 R180). -/

namespace Sys2Proof.Machine

/-- The response of the port transaction of this step (R51). -/
def respond (p : PortOut) (s : State) : State := { s with port := p }

/-! ## Faults -/

/-- The causes of R150, in the order of their codes 1 to 6. -/
inductive Cause where
  | payloadLength
  | deviceId
  | operationWord
  | registerAccess
  | checksumMismatch
  | malformedResponse
  deriving DecidableEq, Repr

/-- The cause code written to ERRC (R150). -/
def causeCode : Cause → BitVec 3
  | .payloadLength => 1#3
  | .deviceId => 2#3
  | .operationWord => 3#3
  | .registerAccess => 4#3
  | .checksumMismatch => 5#3
  | .malformedResponse => 6#3

/-- The class `InvalidArgument`, flag EIA: codes 1 to 4 (R157). -/
def isInvalidArgument : Cause → Bool
  | .payloadLength => true
  | .deviceId => true
  | .operationWord => true
  | .registerAccess => true
  | .checksumMismatch => false
  | .malformedResponse => false

/-- The record of a fault: ERRC ← c (R156), the class bit ← 1, bits already set stay set (R157). -/
def record (c : Cause) (s : State) : State :=
  { s with
    errc := causeCode c
    eia := s.eia || isInvalidArgument c
    eck := s.eck || c == .checksumMismatch
    emf := s.emf || c == .malformedResponse }

/-- R155: taking a fault. The record, the response ERR, and nothing else; control goes nowhere, and there is nothing to
save. Returning from it is trivial (R161): the port is free (ACQP is untouched) and the host may go on. -/
def raise (c : Cause) (s : State) : State := respond .err (record c s)

/-- R155 (1) for a read: response ERR, and the data returned is 0x00. -/
def raiseOnRead (c : Cause) (s : State) : State := respond (.errData 0x00#8) (record c s)

/-- R161: the host's way out of a fault, done by CLRERR (R132): the record is cleared, nothing is restored. -/
def clearRecord (s : State) : State :=
  { s with errc := 0#3, eia := false, eck := false, emf := false, txovw := false }

/-! ## Receive and transmit streams -/

/-- `rx(b)` of R134: store at RXF[RXCNT], or drop the byte and set ROVR (R135). -/
def rxDeliver (b : Byte) (s : State) : State :=
  if h : s.rxcnt.toNat < frameLen then
    { s with rxf := s.rxf.set s.rxcnt.toNat b h, rxcnt := s.rxcnt + 1#4 }
  else { s with rovr := true }

/-- RXCLR's effect on the receive side (R131). -/
def clearRx (s : State) : State :=
  { s with rxf := Vector.replicate 11 0#8, rxcnt := 0#4, rovr := false, rxok := false, rstat := 0#3 }

/-- A frame on offer to LINK-TX (R95, R99): TXOVW if TXV was 1, then TXF, TXIDX and TXV in the same step. -/
def loadFrame (f : Vector Byte 11) (s : State) : State :=
  { s with txovw := s.txovw || s.txv, txf := f, txidx := 0#4, txv := true }

/-- `tx_take()` of R136, run when TXV = 1: the byte TXF[TXIDX] leaves on the line, TXIDX is incremented, TXV ← 0 after
the eleventh byte. With TXIDX above 10, which never occurs (R16, R17), there is no byte: the model stops (log 8). -/
def txTake (s : State) : Host.Outcome State Fault Refusal :=
  if h : s.txidx.toNat < frameLen then
    .next { s with
      line := some s.txf[s.txidx.toNat]
      txidx := s.txidx + 1#4
      txv := s.txv && s.txidx != 10#4 }
  else .fault .txIndexOutOfFrame

/-! ## Limiters -/

/-- Commands per second of a limiter: RATE_NORMAL 2, RATE_FAST 10 (R5). -/
def rate : Limiter → Nat
  | .normal => 2
  | .fast => 10

/-- INTERVAL[l] = TICK_HZ / rate ticks (R113). -/
def interval (c : Config) (l : Limiter) : Nat := c.tickHz / rate l

/-- INTERVAL[l] as LIMCNT[l] holds it. The constraint of R6 makes it fit. -/
def intervalWord (c : Config) (l : Limiter) : BitVec 16 := BitVec.ofNat 16 (interval c l)

/-- The hold of R111: ACQP ← 1, ACQL ← l, the response is withheld. -/
def startAcquire (l : Limiter) (s : State) : State := respond .hold { s with acqp := true, acql := l }

/-- One counter in phase 1 of a TICK (R114): down by one, a counter at 0 stays 0. -/
def countDown (c : BitVec 16) : BitVec 16 := if c = 0#16 then 0#16 else c - 1#16

/-- TICK phase 1, refill (R114): both counters, independently. -/
def refill (s : State) : State := { s with limcntN := countDown s.limcntN, limcntF := countDown s.limcntF }

/-- Whether phase 2 of a TICK grants, on the decremented counters (R115). -/
def grantDue (s : State) : Bool := s.acqp && s.limcnt s.acql == 0#16

/-- TICK phase 2, grant (R115): the granted counter is reloaded, ACQP ← 0, OK to the held write. -/
def grant (s : State) : State :=
  if grantDue s then respond .ok { s.setLimcnt s.acql (intervalWord s.cfg s.acql) with acqp := false } else s

/-- The TICK step (R114, R115). -/
def tick (s : State) : State := grant (refill s)

/-! ## Reset -/

/-- The reset step (R180): every component of R10 at its reset value; a pending ACQUIRE is abandoned without a response.
The parameters and what the environment will do are not state of the block and stay (log 9). -/
def resetStep (s : State) : State := { State.reset with cfg := s.cfg, env := s.env }

/-- SRST (R133): every register at its reset value, except LIMCNT[0] and LIMCNT[1]. ACQL too (DEDUCED, log 6). -/
def softReset (s : State) : State :=
  { resetStep s with limcntN := s.limcntN, limcntF := s.limcntF, line := s.line }

end Sys2Proof.Machine
end

