-- ==== Sys2Proof/Machine/Codec.lean ====
section
/-! DEFINITION. The codec operations ENCODE, CKSUM.T, CKSUM.R, DECODE (40_codec_ops.md). -/

namespace Sys2Proof.Machine

/-- ENCODE's device id check (R97): CHECK_DEVID, and DEVID outside 1 to 99. -/
def devidRefused (s : State) : Bool :=
  s.cfg.checkDevid && (decide (s.devid.toNat < devidMin) || decide (devidMax < s.devid.toNat))

/-- The frame ENCODE builds from the staging registers (R93, R95). -/
def stagedFrame (s : State) : Vector Byte 11 := buildFrame s.devid s.pay s.plen.toNat

/-- ENCODE, R95: cause 1 (R96), then cause 2 (R97), else the frame. -/
def execEncode (s : State) : Host.Outcome State Fault Refusal :=
  if payloadMax < s.plen.toNat then .next (raise .payloadLength s)
  else if devidRefused s then .next (raise .deviceId s)
  else .next (respond .ok (loadFrame (stagedFrame s) s))

/-- CKSUM.T, R100. -/
def execCksumT (s : State) : Host.Outcome State Fault Refusal :=
  .next (respond .ok { s with ckcalc := cksum7 (bodyOf s.txf) })

/-- CKSUM.R, R101. -/
def execCksumR (s : State) : Host.Outcome State Fault Refusal :=
  .next (respond .ok { s with ckcalc := cksum7 (bodyOf s.rxf) })

/-- RXOK ← 0, RSTAT ← 0: what every failing DECODE does before it raises (R102). -/
def invalidate (s : State) : State := { s with rxok := false, rstat := 0#3 }

/-- CKCALC ← the recomputed checksum, CKRECV ← RXF[10] (R102). -/
def captureChecksums (s : State) : State := { s with ckcalc := cksum7 (bodyOf s.rxf), ckrecv := s.rxf[10] }

/-- DECODE, R102: cause 6 (R103), then cause 5 (R104), else the status (R106). -/
def execDecode (s : State) : Host.Outcome State Fault Refusal :=
  if s.rxcnt ≠ 11#4 ∨ s.rovr = true then .next (raise .malformedResponse (invalidate s))
  else if frameOk s.rxf then
    .next (respond .ok { captureChecksums s with rxok := true, rstat := statusOf s.rxf })
  else .next (raise .checksumMismatch (invalidate (captureChecksums s)))

end Sys2Proof.Machine
end

