-- ==== Sys2Proof/Machine/Limiting.lean ====
section
/-! DEFINITION. The limiter operations ACQUIRE.N and ACQUIRE.F (41_limiter_ops.md). The grant is the TICK step's
(`tick` in Ops.lean). -/

namespace Sys2Proof.Machine

/-- ACQUIRE.N, R119. -/
def execAcquireN (s : State) : Host.Outcome State Fault Refusal := .next (startAcquire .normal s)

/-- ACQUIRE.F, R120. -/
def execAcquireF (s : State) : Host.Outcome State Fault Refusal := .next (startAcquire .fast s)

end Sys2Proof.Machine
end

