-- ==== Sys2Proof/Machine/System.lean ====
section
/-! DEFINITION. The system operations NOP, RXCLR, CLRERR, SRST (42_stream_system_ops.md). -/

namespace Sys2Proof.Machine

/-- NOP, R130. -/
def execNop (s : State) : Host.Outcome State Fault Refusal := .next (respond .ok s)

/-- RXCLR, R131. -/
def execRxclr (s : State) : Host.Outcome State Fault Refusal := .next (respond .ok (clearRx s))

/-- CLRERR, R132. -/
def execClrerr (s : State) : Host.Outcome State Fault Refusal := .next (respond .ok (clearRecord s))

/-- SRST, R133. -/
def execSrst (s : State) : Host.Outcome State Fault Refusal := .next (respond .ok (softReset s))

end Sys2Proof.Machine
end

