-- ==== Sys2Proof/Machine/Dispatch.lean ====
section
/-! DEFINITION. One arm per operation. -/

namespace Sys2Proof.Machine

def exec (i : Instr) (s : State) : Host.Outcome State Fault Refusal :=
  match i with
  | .nop => Sys2Proof.Machine.execNop s
  | .encode => Sys2Proof.Machine.execEncode s
  | .cksumT => Sys2Proof.Machine.execCksumT s
  | .cksumR => Sys2Proof.Machine.execCksumR s
  | .decode => Sys2Proof.Machine.execDecode s
  | .rxclr => Sys2Proof.Machine.execRxclr s
  | .clrerr => Sys2Proof.Machine.execClrerr s
  | .acquireN => Sys2Proof.Machine.execAcquireN s
  | .acquireF => Sys2Proof.Machine.execAcquireF s
  | .srst => Sys2Proof.Machine.execSrst s

end Sys2Proof.Machine
end

