-- ==== Sys2Proof/Machine/Port.lean ====
section
/-! DEFINITION. The host port (20_memory.md R42, R43) and the step each agent performs in its turn (R50). -/

namespace Sys2Proof.Machine

/-- The address of CMD (R41). -/
abbrev cmdAddr : Addr := 0x00#6

/-- A write of `w` to CMD: the operation the word encodes runs (R79); a reserved word faults with cause 3 and starts
nothing (R139). -/
def startOperation (w : Byte) (s : State) : Host.Outcome State Fault Refusal :=
  match decode w with
  | .ok i => exec i s
  | .error _ => .next (raise .operationWord s)

/-- Host read, R42. -/
def hostRead (a : Addr) (s : State) : Host.Outcome State Fault Refusal :=
  match readAddr s a with
  | some d => .next (respond (.okData d) s)
  | none => .next (raiseOnRead .registerAccess s)

/-- Host write, R43. DEVID, PLEN and PAY[i] store all 8 bits unchecked; CMD starts an operation; RXPUSH delivers a byte
(R138); a read-only or reserved location faults with cause 4 (R46, R47). -/
def hostWrite (a : Addr) (v : Byte) (s : State) : Host.Outcome State Fault Refusal :=
  match locOf a with
  | .devid => .next (respond .ok { s with devid := v })
  | .plen => .next (respond .ok { s with plen := v })
  | .pay i => .next (respond .ok { s with pay := s.pay.set i.val v i.isLt })
  | .cmd => startOperation v s
  | .rxpush => .next (respond .ok (rxDeliver v s))
  | .status | .errc | .errflg | .ckcalc | .ckrecv | .rstat | .txf _ | .txidx | .rxf _ | .rxcnt | .reserved =>
    .next (raise .registerAccess s)

/-- One host transaction on a free port. -/
def transact (t : HostTx) (s : State) : Host.Outcome State Fault Refusal :=
  match t with
  | .rd a => hostRead a s
  | .wr a v => hostWrite a v s

/-- HOST's turn: with the port held no host step is enabled and the host waits (R51); otherwise it issues its next
transaction, if it has one. -/
def hostTurn (s : State) : Host.Outcome State Fault Refusal :=
  if s.acqp then .next s
  else
    match s.env.host with
    | [] => .next s
    | t :: rest => transact t { s with env := { host := rest, rx := s.env.rx, sched := s.env.sched } }

/-- LINK-RX's turn: it delivers its next byte, if it has one; always enabled (R134). -/
def linkRxTurn (s : State) : Host.Outcome State Fault Refusal :=
  match s.env.rx with
  | [] => .next s
  | b :: rest => .next (rxDeliver b { s with env := { host := s.env.host, rx := rest, sched := s.env.sched } })

/-- LINK-TX's turn: a take is enabled exactly when TXV = 1 (R136, R137). -/
def linkTxTurn (s : State) : Host.Outcome State Fault Refusal := if s.txv then txTake s else .next s

/-- The step of the agent whose turn it is (R50). An agent with no enabled step lets its turn pass (log 3). -/
def turn (a : Agent) (s : State) : Host.Outcome State Fault Refusal :=
  match a with
  | .host => hostTurn s
  | .linkRx => linkRxTurn s
  | .linkTx => linkTxTurn s
  | .tick => .next (tick s)
  | .reset => .next (resetStep s)

/-- The outputs of the last step are over: the port is silent and no byte is on the line (log 4). -/
def quiet (s : State) : State := { s with port := .silent, line := none }

/-- One step: the outputs of the last step end, and the agent that the schedule names performs its step (R50). With an
empty schedule nobody moves and the block stays as it is (log 3). -/
def nextStep (s : State) : Host.Outcome State Fault Refusal :=
  match s.env.sched with
  | [] => .next (quiet s)
  | a :: rest => turn a (quiet { s with env := { host := s.env.host, rx := s.env.rx, sched := rest } })

/-- The host about to write `w` to CMD, and the host's turn next, with the port free (log 1). -/
def aboutToWriteCmd (w : Byte) (s : State) : State :=
  { s with
    acqp := false
    env := { host := .wr cmdAddr w :: s.env.host, rx := s.env.rx, sched := .host :: s.env.sched } }

end Sys2Proof.Machine
end

