-- ==== Sys2Proof/Machine/Step.lean ====
section
/-! DEFINITION. The step of the machine, and how the host's pipeline places one operation before it (log 1). -/

namespace Sys2Proof.Machine

/-- One step of the machine (20_memory.md R50). -/
def step (s : State) : Host.Outcome State Fault Refusal := nextStep s

/-- `s` with the operation word placed so that the next step runs it: as the host's next write to CMD (R12, log 1). -/
def State.withFetchWord (s : State) (nbits w : Nat) : State := aboutToWriteCmd (tableByte nbits w) s

end Sys2Proof.Machine
end

