-- ==== Sys2Proof/Safety.lean ====
section
/-! DEFINITION. What counts as a good state and a safe run, in the terms the statements use: the invariants of
10_state.md R35, a step that completes, runs of agents' turns, and the grants and line bytes of a run. -/

namespace Sys2Proof.Machine

/-- What R35 (j) says of TXF after a successful ENCODE: header, an id of 1 to 99 where it is checked, a good checksum. -/
structure HoldsFrame (s : State) : Prop where
  header0 : s.txf[0] = 0xFF#8
  header1 : s.txf[1] = 0xFF#8
  deviceId : s.cfg.checkDevid = true → 1 ≤ s.txf[2].toNat ∧ s.txf[2].toNat ≤ 99
  checksum : frameOk s.txf = true

/-- The invariants of R35, clause by clause, with R17's clause on TXIDX while TXV = 0 and R6's constraint on the
parameters. Clauses (c) and (i) and the RSTAT half of (d) hold by the widths of the fields. -/
structure Invariants (s : State) : Prop where
  /-- R6. -/
  params : s.cfg.wellFormed = true
  /-- R35 (a). -/
  txidxLegal : s.txidx.toNat ≤ 11
  /-- R35 (a). -/
  rxcntLegal : s.rxcnt.toNat ≤ 11
  /-- R35 (b). -/
  txidxOnOffer : s.txv = true → s.txidx.toNat ≤ 10
  /-- R17. -/
  txidxIdle : s.txv = false → s.txidx = 0#4 ∨ s.txidx = 11#4
  /-- R35 (d). -/
  errcLegal : s.errc.toNat ≤ 6
  /-- R35 (e), l = 0. -/
  limcntNBound : s.limcntN.toNat ≤ interval s.cfg .normal
  /-- R35 (e), l = 1. -/
  limcntFBound : s.limcntF.toNat ≤ interval s.cfg .fast
  /-- R35 (f), and R22 for CKRECV. -/
  validated : s.rxok = true →
    s.rxcnt = 11#4 ∧ frameOk s.rxf = true ∧ s.rstat = statusOf s.rxf ∧ s.ckrecv = s.rxf[10]
  /-- R35 (g). -/
  overrunFull : s.rovr = true → s.rxcnt = 11#4
  /-- R35 (h). -/
  unreceivedZero : ∀ i : Fin 11, s.rxcnt.toNat ≤ i.val → s.rxf[i] = 0x00#8
  /-- R35 (j). -/
  transmitFrame : HoldsFrame s ∨ s.txf = Vector.replicate 11 0x00#8
  /-- R17 with R35 (j): what is on offer to LINK-TX is a frame. -/
  offerIsFrame : s.txv = true → HoldsFrame s

/-- A step is safe where it answers a next state: it neither faults nor refuses. -/
def Completes (o : Host.Outcome State Fault Refusal) : Prop := ∃ t, o = .next t

/-- The turns of the agents of a list, one after another, each with the outputs of the turn before it over. -/
def runTurns : List Agent → State → Host.Outcome State Fault Refusal
  | [], s => .next s
  | a :: rest, s =>
    match turn a (quiet s) with
    | .next t => runTurns rest t
    | .fault r => .fault r
    | .refused r => .refused r

/-- A TICK step at this state grants limiter `l` (R115). -/
def grants (l : Limiter) (s : State) : Bool := grantDue (refill s) && s.acql == l

/-- How many times limiter `l` is granted in a run of turns. -/
def grantCount (l : Limiter) : List Agent → State → Nat
  | [], _ => 0
  | a :: rest, s =>
    (if a = .tick ∧ grants l s = true then 1 else 0) +
      match turn a (quiet s) with
      | .next t => grantCount l rest t
      | .fault _ => 0
      | .refused _ => 0

/-- The bytes LINK-TX takes in a run of turns, first taken first: what the line carries. -/
def lineBytes : List Agent → State → List Byte
  | [], _ => []
  | a :: rest, s =>
    match turn a (quiet s) with
    | .next t => t.line.toList ++ lineBytes rest t
    | .fault _ => []
    | .refused _ => []

/-- The operation that acquires limiter `l` (R78). -/
def acquireOf : Limiter → Instr
  | .normal => .acquireN
  | .fast => .acquireF

/-- Bytes delivered one after another, the first of the list first (R134). -/
def deliverAll (bs : List Byte) (s : State) : State := bs.foldl (fun u b => rxDeliver b u) s

end Sys2Proof.Machine
end

