-- ==== Sys2Proof/Certificates/Slice0/Obligations.lean ====
section
/-! DEFINITION. The statements for the provers. Each docstring names the rule of spec/ it formalises. A next state written
as a record update is the whole frame: every field not named in it is unchanged. -/

open Sys2Proof Sys2Proof.Machine

/-! ## Encodings and the step -/

/-- R79: the operation map, every value 0x00 to 0xFF. -/
def Obligations.OperationMapCoversEveryWord : Prop :=
  decode 0x00#8 = .ok .nop ∧ decode 0x01#8 = .ok .encode ∧ decode 0x02#8 = .ok .cksumT ∧
  decode 0x03#8 = .ok .cksumR ∧ decode 0x04#8 = .ok .decode ∧ decode 0x05#8 = .ok .rxclr ∧
  decode 0x06#8 = .ok .clrerr ∧ decode 0x08#8 = .ok .acquireN ∧ decode 0x09#8 = .ok .acquireF ∧
  decode 0x0F#8 = .ok .srst ∧
  ∀ w : Byte, (w.toNat = 0x07 ∨ (0x0A ≤ w.toNat ∧ w.toNat ≤ 0x0E) ∨ 0x10 ≤ w.toNat) →
    decode w = .error (.reservedWord w)

/-- R75, R79: decode and encode agree in both directions, and bits 7:4 of every defined word are zero. -/
def Obligations.DecodeEncodeAgree : Prop :=
  (∀ i : Instr, i.wellFormed = true → decode (encode i) = .ok i) ∧
  ∀ (w : Byte) (i : Instr), decode w = .ok i → encode i = w ∧ w.extractLsb' 4 4 = 0#4

/-- R43, R79: on the host's turn with the port free and a write of an operation word to CMD next, the step is the
operation, at the state whose host and schedule have moved on and whose outputs are over. -/
def Obligations.StepRunsDecodedOperation : Prop :=
  ∀ (s : State) (w : Byte) (i : Instr) (hs : List HostTx) (as : List Agent),
    s.acqp = false → s.env.host = .wr 0x00#6 w :: hs → s.env.sched = .host :: as → decode w = .ok i →
    step s = exec i { s with env := { host := hs, rx := s.env.rx, sched := as }, port := .silent, line := none }

/-- R80, R139: a reserved word written to CMD. -/
def Obligations.ReservedWordFaultsAndStartsNothing : Prop :=
  ∀ (s : State) (w : Byte), (w.toNat = 0x07 ∨ (0x0A ≤ w.toNat ∧ w.toNat ≤ 0x0E) ∨ 0x10 ≤ w.toNat) →
    transact (.wr 0x00#6 w) s = .next { s with errc := 3#3, eia := true, port := .err }

/-- R50 and log 3: the step is the turn of the agent that the schedule names first, and with an empty schedule only the
outputs of the last step end. -/
def Obligations.StepIsScheduledTurn : Prop :=
  (∀ (s : State) (a : Agent) (as : List Agent), s.env.sched = a :: as →
    step s = turn a { s with env := { host := s.env.host, rx := s.env.rx, sched := as }, port := .silent, line := none }) ∧
  ∀ s : State, s.env.sched = [] → step s = .next { s with port := .silent, line := none }

/-- R50, R51: with ACQP = 1 no host step is enabled; with ACQP = 0 the host's next transaction runs. That a host turn
without an enabled step passes, changing nothing, is the model's choice (log 3), and so is the queue that the transactions
come from (log 2). -/
def Obligations.HeldPortStartsNoTransaction : Prop :=
  (∀ s : State, s.acqp = true → turn .host s = .next s) ∧
  ∀ (s : State) (x : HostTx) (hs : List HostTx), s.acqp = false → s.env.host = x :: hs →
    turn .host s = transact x { s with env := { host := hs, rx := s.env.rx, sched := s.env.sched } }

/-! ## The pure functions of the codec -/

/-- R90: the checksum formula, in the integers, over the low 7 bits of ten bytes. -/
def Obligations.ChecksumFollowsFormula : Prop :=
  ∀ s : Vector Byte 10,
    ((cksum7 s).toNat : Int) =
      (0x80 - ((s[0] &&& 0x7F#8).toNat + (s[1] &&& 0x7F#8).toNat + (s[2] &&& 0x7F#8).toNat + (s[3] &&& 0x7F#8).toNat +
        (s[4] &&& 0x7F#8).toNat + (s[5] &&& 0x7F#8).toNat + (s[6] &&& 0x7F#8).toNat + (s[7] &&& 0x7F#8).toNat +
        (s[8] &&& 0x7F#8).toNat + (s[9] &&& 0x7F#8).toNat : Nat)) % 128

/-- R91: the equivalent forms (a) to (d) of the checksum, the test of an 11-byte frame, and the short form for a frame
that R93 builds. -/
def Obligations.ChecksumEquivalentForms : Prop :=
  (∀ s : Vector Byte 10,
    ((cksum7 s).toNat : Int) = (-(sum7 s : Int)) % 128 ∧
    (cksum7 s).toNat = (128 - sum7 s % 128) % 128 ∧
    cksum7 s = (s.toList.foldl (fun (a : BitVec 7) b => a + b.extractLsb' 0 7) 0#7 ^^^ 0x7F#7) + 1#7 ∧
    ∀ c : BitVec 7, c = cksum7 s ↔ (sum7 s + c.toNat) % 128 = 0) ∧
  (∀ f : Vector Byte 11, frameOk f = true ↔ f[10].toNat ≤ 127 ∧ (f.toList.map fun b => b.toNat % 128).sum % 128 = 0) ∧
  ∀ (id : Byte) (p : Vector Byte 7) (n : Nat), n ≤ 7 →
    (((buildFrame id p n)[10]).toNat : Int) =
      (2 - (id.toNat % 128 : Nat) - (((pad7 p n).toList.map fun b => b.toNat % 128).sum : Nat)) % 128

/-- R92: `pad7` gives seven bytes, the first n those of the argument, the rest 0x00. -/
def Obligations.PaddingKeepsThenZeroFills : Prop :=
  ∀ (p : Vector Byte 7) (n : Nat), n ≤ 7 →
    (pad7 p n).toList.length = 7 ∧
    (∀ (i : Nat) (h : i < 7), i < n → (pad7 p n)[i] = p[i]) ∧
    ∀ (i : Nat) (h : i < 7), n ≤ i → (pad7 p n)[i] = 0x00#8

/-- R108: which single-byte changes of a valid frame go undetected: exactly those that flip bit 7 and nothing else of one
of bytes 0 to 9, one such change for each of the ten. -/
def Obligations.SingleByteChangeDetection : Prop :=
  ∀ (f : Vector Byte 11) (i : Nat) (h : i < 11) (b : Byte), frameOk f = true → b ≠ f[i] →
    (i ≤ 9 → (f[i] ^^^ b) &&& 0x7F#8 ≠ 0#8 → frameOk (f.set i b) = false) ∧
    (i = 10 → frameOk (f.set i b) = false) ∧
    (i ≤ 9 → (frameOk (f.set i b) = true ↔ b = f[i] ^^^ 0x80#8))

/-! ## The codec operations -/

/-- R95, R98, R99: a successful ENCODE, its frame byte by byte, and all it leaves unchanged. -/
def Obligations.EncodeLoadsFrame : Prop :=
  ∀ s : State, s.plen.toNat ≤ 7 → (s.cfg.checkDevid = true → 1 ≤ s.devid.toNat ∧ s.devid.toNat ≤ 99) →
    ∃ F : Vector Byte 11,
      exec .encode s = .next { s with
        txf := F, txidx := 0#4, txv := true, txovw := s.txovw || s.txv, port := .ok } ∧
      F[0] = 0xFF#8 ∧ F[1] = 0xFF#8 ∧ F[2] = s.devid ∧
      (∀ (i : Nat) (h : i < 7), i < s.plen.toNat → F[3 + i] = s.pay[i]) ∧
      (∀ (i : Nat) (h : i < 7), s.plen.toNat ≤ i → F[3 + i] = 0x00#8) ∧
      F[10] = (cksum7 F.pop).zeroExtend 8

/-- R96: cause 1, exactly when PLEN > 7. -/
def Obligations.EncodeLengthFault : Prop :=
  ∀ s : State,
    (7 < s.plen.toNat → exec .encode s = .next { s with errc := 1#3, eia := true, port := .err }) ∧
    ∀ t, exec .encode s = .next t → t.port = .err → t.errc = 1#3 → 7 < s.plen.toNat

/-- R97: cause 2, exactly when PLEN ≤ 7, CHECK_DEVID, and DEVID is 0 or at least 100; without CHECK_DEVID any DEVID goes
into byte 2. -/
def Obligations.EncodeDeviceIdFault : Prop :=
  ∀ s : State,
    (s.plen.toNat ≤ 7 → s.cfg.checkDevid = true → (s.devid.toNat = 0 ∨ 100 ≤ s.devid.toNat) →
      exec .encode s = .next { s with errc := 2#3, eia := true, port := .err }) ∧
    (s.plen.toNat ≤ 7 → s.cfg.checkDevid = false → ∃ t, exec .encode s = .next t ∧ t.port = .ok ∧ t.txf[2] = s.devid) ∧
    ∀ t, exec .encode s = .next t → t.port = .err → t.errc = 2#3 →
      s.plen.toNat ≤ 7 ∧ s.cfg.checkDevid = true ∧ (s.devid.toNat = 0 ∨ 100 ≤ s.devid.toNat)

/-- R123: ENCODE is not gated by the limiters: with other limiter counters it does the same, and leaves them. -/
def Obligations.EncodeIgnoresLimiters : Prop :=
  ∀ (s t : State) (n f : BitVec 16), exec .encode s = .next t →
    t.limcntN = s.limcntN ∧ t.limcntF = s.limcntF ∧
    exec .encode { s with limcntN := n, limcntF := f } = .next { t with limcntN := n, limcntF := f }

/-- R100, R101: the two checksum operations write CKCALC and nothing else of the block. -/
def Obligations.CksumWritesOnlyCkcalc : Prop :=
  ∀ s : State,
    exec .cksumT s = .next { s with ckcalc := cksum7 s.txf.pop, port := .ok } ∧
    exec .cksumR s = .next { s with ckcalc := cksum7 s.rxf.pop, port := .ok }

/-- R102, R106: a DECODE that succeeds. -/
def Obligations.DecodeAcceptsGoodFrame : Prop :=
  ∀ s : State, s.rxcnt = 11#4 → s.rovr = false → (cksum7 s.rxf.pop).zeroExtend 8 = s.rxf[10] →
    exec .decode s = .next { s with
      ckcalc := cksum7 s.rxf.pop, ckrecv := s.rxf[10], rxok := true, rstat := s.rxf[3].extractLsb' 0 3, port := .ok }

/-- R103: cause 6, exactly when RXCNT ≠ 11 or ROVR = 1; CKCALC and CKRECV stay. -/
def Obligations.DecodeMalformedFault : Prop :=
  ∀ s : State,
    ((s.rxcnt ≠ 11#4 ∨ s.rovr = true) →
      exec .decode s = .next { s with rxok := false, rstat := 0#3, errc := 6#3, emf := true, port := .err }) ∧
    ∀ t, exec .decode s = .next t → t.port = .err → t.errc = 6#3 → s.rxcnt ≠ 11#4 ∨ s.rovr = true

/-- R104: cause 5, exactly when the buffer has the right shape and byte 10 differs from the recomputed checksum on any of
its 8 bits; the two values are left in CKCALC and CKRECV. -/
def Obligations.DecodeChecksumFault : Prop :=
  ∀ s : State,
    (s.rxcnt = 11#4 → s.rovr = false → (cksum7 s.rxf.pop).zeroExtend 8 ≠ s.rxf[10] →
      exec .decode s = .next { s with
        ckcalc := cksum7 s.rxf.pop, ckrecv := s.rxf[10], rxok := false, rstat := 0#3, errc := 5#3, eck := true,
        port := .err }) ∧
    ∀ t, exec .decode s = .next t → t.port = .err → t.errc = 5#3 →
      s.rxcnt = 11#4 ∧ s.rovr = false ∧ (cksum7 s.rxf.pop).zeroExtend 8 ≠ s.rxf[10]

/-- R105: DECODE checks the byte count, the overrun flag and the checksum, and nothing else: not the header bytes, not
DEVID, not the status. -/
def Obligations.DecodeChecksNothingElse : Prop :=
  ∀ s t : State, exec .decode s = .next t →
    (t.port = .ok ↔ s.rxcnt = 11#4 ∧ s.rovr = false ∧ s.rxf[10].toNat ≤ 127 ∧
      (s.rxf.toList.map fun b => b.toNat % 128).sum % 128 = 0) ∧
    ∀ d : Byte, exec .decode { s with devid := d } = .next { t with devid := d }

/-- R107: every frame of a device id 1 to 99 and at most 7 payload bytes validates; and in block terms, ENCODE, then its
eleven bytes delivered in order into an empty receive buffer, then DECODE. -/
def Obligations.EncodeThenDecodeRoundTrip : Prop :=
  (∀ (id : Byte) (p : Vector Byte 7) (n : Nat), 1 ≤ id.toNat → id.toNat ≤ 99 → n ≤ 7 →
    frameOk (buildFrame id p n) = true) ∧
  ∀ s : State, 1 ≤ s.devid.toNat → s.devid.toNat ≤ 99 → s.plen.toNat ≤ 7 → s.rxcnt = 0#4 → s.rovr = false →
    ∃ t u, exec .encode s = .next t ∧ t.port = .ok ∧
      exec .decode (deliverAll t.txf.toList t) = .next u ∧
      u.port = .ok ∧ u.rxf = t.txf ∧ u.rxok = true ∧ u.ckcalc.zeroExtend 8 = t.txf[10] ∧ u.ckrecv = t.txf[10] ∧
      u.rstat = if 1 ≤ s.plen.toNat then s.pay[0].extractLsb' 0 3 else 0#3

/-! ## Stream and system operations -/

/-- R130: NOP responds OK and writes nothing. -/
def Obligations.NopWritesNothing : Prop := ∀ s : State, exec .nop s = .next { s with port := .ok }

/-- R131: RXCLR empties the receive side and writes nothing else. -/
def Obligations.RxclrEmptiesReceiveSide : Prop :=
  ∀ s : State, exec .rxclr s = .next { s with
    rxf := Vector.replicate 11 0x00#8, rxcnt := 0#4, rovr := false, rxok := false, rstat := 0#3, port := .ok }

/-- R132: CLRERR clears ERRC and ERRFLG and nothing else. -/
def Obligations.ClrerrClearsRecord : Prop :=
  ∀ s : State, exec .clrerr s = .next { s with
    errc := 0#3, eia := false, eck := false, emf := false, txovw := false, port := .ok }

/-- R133: SRST sets every register to its reset value but LIMCNT[0] and LIMCNT[1]. That ACQL is among them is read from
R133's pseudocode (log 6, DEDUCED). -/
def Obligations.SrstKeepsOnlyLimiterCounters : Prop :=
  ∀ s : State, exec .srst s = .next {
    pay := Vector.replicate 7 0x00#8, plen := 0x00#8, devid := 0x00#8
    txf := Vector.replicate 11 0x00#8, txidx := 0#4, txv := false
    rxf := Vector.replicate 11 0x00#8, rxcnt := 0#4, rovr := false
    ckcalc := 0#7, ckrecv := 0x00#8, rxok := false, rstat := 0#3
    errc := 0#3, eia := false, eck := false, emf := false, txovw := false
    limcntN := s.limcntN, limcntF := s.limcntF, acqp := false, acql := .normal
    cfg := s.cfg, env := s.env, port := .ok, line := s.line }

/-- R134, R135: a byte is stored at RXF[RXCNT] while RXCNT < 11; otherwise it is dropped and ROVR is set. That the bytes
come from a queue is the model's choice (log 2). -/
def Obligations.DeliveryStoresOrOverruns : Prop :=
  ∀ (s : State) (b : Byte) (bs : List Byte), s.env.rx = b :: bs →
    (∀ h : s.rxcnt.toNat < 11,
      turn .linkRx s = .next { s with
        rxf := s.rxf.set s.rxcnt.toNat b h, rxcnt := s.rxcnt + 1#4, env := { host := s.env.host, rx := bs, sched := s.env.sched } }) ∧
    (¬ s.rxcnt.toNat < 11 → turn .linkRx s = .next { s with rovr := true, env := { host := s.env.host, rx := bs, sched := s.env.sched } })

/-- R20, R135: ROVR, once set, is cleared only by RXCLR, SRST and reset, and while it is 1 no RXF byte changes but by
them. -/
def Obligations.OverrunIsSticky : Prop :=
  ∀ (a : Agent) (s t : State), Invariants s → s.rovr = true → turn a s = .next t →
    (t.rovr = true ∧ t.rxf = s.rxf ∧ t.rxcnt = s.rxcnt) ∨ a = .reset ∨
      (a = .host ∧ ∃ hs, s.env.host = .wr 0x00#6 0x05#8 :: hs ∨ s.env.host = .wr 0x00#6 0x0F#8 :: hs)

/-- R136, R137: with TXV = 1 a take returns TXF[TXIDX], increments TXIDX, and clears TXV after byte 10; with TXV = 0 no
take is enabled. That LINK-TX's turn then passes, changing nothing, is the model's choice (log 3), and so is the field
`line` that holds the byte returned (log 4). -/
def Obligations.TakeReturnsNextFrameByte : Prop :=
  (∀ s : State, s.txv = false → turn .linkTx s = .next s) ∧
  ∀ (s : State) (h : s.txidx.toNat < 11), s.txv = true →
    turn .linkTx s = .next { s with
      line := some s.txf[s.txidx.toNat], txidx := s.txidx + 1#4, txv := decide (s.txidx.toNat ≠ 10) }

/-- R48, R136, R137: in any run without reset in which LINK-TX has eleven turns and the host's transactions (at most one
for each of its turns) write neither ENCODE nor SRST to CMD, the line carries exactly the frame, index 0 first and the
checksum last, and then TXIDX = 11 and TXV = 0. The host may poll STATUS.TXV meanwhile, as R193 (5) has it. That LINK-TX's
turns after the eleventh take pass, and that the host's transactions are a queue, is the model's choice (logs 3, 2). -/
def Obligations.FrameLeavesInIndexOrder : Prop :=
  ∀ (s t : State) (as : List Agent), s.txv = true → s.txidx = 0#4 →
    (∀ x ∈ s.env.host.take (as.count .host), x ≠ .wr 0x00#6 0x01#8 ∧ x ≠ .wr 0x00#6 0x0F#8) →
    .reset ∉ as → 11 ≤ as.count .linkTx → runTurns as s = .next t →
    lineBytes as s = s.txf.toList ∧ t.txidx = 11#4 ∧ t.txv = false ∧ t.txf = s.txf

/-- R138: a write to RXPUSH is the delivery of the same byte, and responds OK. LINK-RX's queue is log 2's. -/
def Obligations.RxpushIsDelivery : Prop :=
  ∀ (s : State) (b : Byte),
    ∃ t, transact (.wr 0x2C#6 b) s = .next { t with port := .ok } ∧
      turn .linkRx { s with env := { host := s.env.host, rx := b :: s.env.rx, sched := s.env.sched } } = .next t

/-- R15: only ENCODE, SRST and reset write TXF. -/
def Obligations.TxfWrittenOnlyByEncodeSrstReset : Prop :=
  ∀ (a : Agent) (s t : State), turn a s = .next t → t.txf ≠ s.txf →
    a = .reset ∨ (a = .host ∧ ∃ hs, s.env.host = .wr 0x00#6 0x01#8 :: hs ∨ s.env.host = .wr 0x00#6 0x0F#8 :: hs)

/-! ## The host port -/

/-- R41, R42: what a read of each readable location gives; it changes nothing of the block. -/
def Obligations.ReadGivesRegister : Prop :=
  ∀ s : State,
    readAddr s 0x01#6 = some (statusView s) ∧ readAddr s 0x02#6 = some (s.errc.zeroExtend 8) ∧
    readAddr s 0x03#6 = some (errflgView s) ∧ readAddr s 0x04#6 = some s.devid ∧ readAddr s 0x05#6 = some s.plen ∧
    readAddr s 0x06#6 = some (s.ckcalc.zeroExtend 8) ∧ readAddr s 0x07#6 = some s.ckrecv ∧
    (∀ (i : Nat) (h : i < 7), readAddr s (BitVec.ofNat 6 (0x08 + i)) = some s.pay[i]) ∧
    readAddr s 0x0F#6 = some (s.rstat.zeroExtend 8) ∧
    (∀ (i : Nat) (h : i < 11), readAddr s (BitVec.ofNat 6 (0x10 + i)) = some s.txf[i]) ∧
    readAddr s 0x1B#6 = some (s.txidx.zeroExtend 8) ∧
    (∀ (i : Nat) (h : i < 11), readAddr s (BitVec.ofNat 6 (0x20 + i)) = some s.rxf[i]) ∧
    readAddr s 0x2B#6 = some (s.rxcnt.zeroExtend 8) ∧
    ∀ (a : Addr) (d : Byte), readAddr s a = some d → transact (.rd a) s = .next { s with port := .okData d }

/-- R43: a write to DEVID, PLEN or PAY[i] stores all 8 bits and nothing else. -/
def Obligations.WriteStoresRegister : Prop :=
  ∀ (s : State) (v : Byte),
    transact (.wr 0x04#6 v) s = .next { s with devid := v, port := .ok } ∧
    transact (.wr 0x05#6 v) s = .next { s with plen := v, port := .ok } ∧
    ∀ (i : Nat) (h : i < 7),
      transact (.wr (BitVec.ofNat 6 (0x08 + i)) v) s = .next { s with pay := s.pay.set i v, port := .ok }

/-- R46, R47: a read of CMD, RXPUSH or a reserved address, and a write to a read-only or reserved address, fault with
cause 4 and change nothing but the record. -/
def Obligations.AccessViolationFaults : Prop :=
  (∀ (s : State) (a : Addr),
    (a.toNat = 0x00 ∨ a.toNat = 0x2C ∨ (0x1C ≤ a.toNat ∧ a.toNat ≤ 0x1F) ∨ 0x2D ≤ a.toNat) →
    transact (.rd a) s = .next { s with errc := 4#3, eia := true, port := .errData 0x00#8 }) ∧
  ∀ (s : State) (a : Addr) (v : Byte),
    ((0x01 ≤ a.toNat ∧ a.toNat ≤ 0x03) ∨ a.toNat = 0x06 ∨ a.toNat = 0x07 ∨
      (0x0F ≤ a.toNat ∧ a.toNat ≤ 0x2B) ∨ 0x2D ≤ a.toNat) →
    transact (.wr a v) s = .next { s with errc := 4#3, eia := true, port := .err }

/-- R45: a read of a readable register, and a write to DEVID, PLEN or PAY[i], done twice is the same as done once. -/
def Obligations.RegisterAccessIsIdempotent : Prop :=
  ∀ (x : HostTx) (s t : State),
    ((∃ a d, x = .rd a ∧ readAddr s a = some d) ∨ (∃ a v, x = .wr a v ∧ (locOf a).access = .rw)) →
    transact x s = .next t → transact x t = .next t

/-- R25, R26: the bits of STATUS, and the view after reset. -/
def Obligations.StatusBitsAreViews : Prop :=
  statusView State.reset = 0x60#8 ∧ ∀ s : State,
    ((statusView s).getLsbD 7 = true ↔ s.rovr = true) ∧
    ((statusView s).getLsbD 6 = true ↔ s.limcntF = 0#16) ∧
    ((statusView s).getLsbD 5 = true ↔ s.limcntN = 0#16) ∧
    ((statusView s).getLsbD 4 = true ↔ s.rxok = true ∧ (s.rstat = 3#3 ∨ s.rstat = 4#3)) ∧
    ((statusView s).getLsbD 3 = true ↔ s.rxok = true) ∧
    ((statusView s).getLsbD 2 = true ↔ s.rxcnt = 11#4) ∧
    ((statusView s).getLsbD 1 = true ↔ s.txv = true) ∧
    ((statusView s).getLsbD 0 = true ↔ s.errc ≠ 0#3)

/-- R28, R35 (i): the bits of ERRFLG; bits 7:4 read 0. -/
def Obligations.ErrflgBitsAreViews : Prop :=
  ∀ s : State,
    (errflgView s).extractLsb' 4 4 = 0#4 ∧ (errflgView s).getLsbD 3 = s.txovw ∧ (errflgView s).getLsbD 2 = s.emf ∧
    (errflgView s).getLsbD 1 = s.eck ∧ (errflgView s).getLsbD 0 = s.eia

/-! ## Faults -/

/-- R159, with R155 to R157: whatever transaction faults, in whatever state, has no effect but the record and, for
DECODE, exactly the registers its rule lists; ERRC is one of the six causes and the class bit is set. -/
def Obligations.FaultsArePrecise : Prop :=
  ∀ (x : HostTx) (s t : State), transact x s = .next t → (t.port = .err ∨ t.port = .errData 0x00#8) →
    ∃ c : BitVec 3, 1 ≤ c.toNat ∧ c.toNat ≤ 6 ∧
      t = { s with
        errc := c
        eia := s.eia || decide (c.toNat ≤ 4)
        eck := s.eck || decide (c.toNat = 5)
        emf := s.emf || decide (c.toNat = 6)
        rxok := s.rxok && decide (c.toNat ≤ 4)
        rstat := if c.toNat ≤ 4 then s.rstat else 0#3
        ckcalc := if c.toNat = 5 then cksum7 s.rxf.pop else s.ckcalc
        ckrecv := if c.toNat = 5 then s.rxf[10] else s.ckrecv
        port := t.port }

/-- R158 (with TXOVW set by a successful ENCODE, R99, log 7): a successful transaction other than CLRERR and SRST leaves
ERRC and the class flags, and TXOVW is changed by ENCODE only. -/
def Obligations.RecordPersistsOverSuccess : Prop :=
  ∀ (x : HostTx) (s t : State), transact x s = .next t → t.port ≠ .err → t.port ≠ .errData 0x00#8 →
    x ≠ .wr 0x00#6 0x06#8 → x ≠ .wr 0x00#6 0x0F#8 →
    t.errc = s.errc ∧ t.eia = s.eia ∧ t.eck = s.eck ∧ t.emf = s.emf ∧ (x ≠ .wr 0x00#6 0x01#8 → t.txovw = s.txovw)

/-- R160: the order of checking. -/
def Obligations.FaultPriority : Prop :=
  (∀ (s : State) (a : Addr) (v : Byte), (locOf a).access = .ro ∨ (locOf a).access = .none →
    ∃ t, transact (.wr a v) s = .next t ∧ t.errc = 4#3) ∧
  (∀ (s : State) (a : Addr), (locOf a).access = .wo ∨ (locOf a).access = .none →
    ∃ t, transact (.rd a) s = .next t ∧ t.errc = 4#3) ∧
  (∀ (s : State) (w : Byte) (e : DecodeError), decode w = .error e →
    ∃ t, transact (.wr 0x00#6 w) s = .next t ∧ t.errc = 3#3) ∧
  (∀ s : State, 7 < s.plen.toNat → ∃ t, transact (.wr 0x00#6 0x01#8) s = .next t ∧ t.errc = 1#3) ∧
  (∀ s : State, s.plen.toNat ≤ 7 → s.cfg.checkDevid = true → s.devid.toNat = 0 ∨ 99 < s.devid.toNat →
    ∃ t, transact (.wr 0x00#6 0x01#8) s = .next t ∧ t.errc = 2#3) ∧
  (∀ s : State, s.rxcnt ≠ 11#4 ∨ s.rovr = true →
    ∃ t, transact (.wr 0x00#6 0x04#8) s = .next t ∧ t.errc = 6#3 ∧ t.ckcalc = s.ckcalc ∧ t.ckrecv = s.ckrecv) ∧
  ∀ s : State, s.rxcnt = 11#4 → s.rovr = false → frameOk s.rxf = false →
    ∃ t, transact (.wr 0x00#6 0x04#8) s = .next t ∧ t.errc = 5#3

/-- R161: after a fault the port is free, and the host's next transaction runs at once. The host's queue is log 2's. -/
def Obligations.FaultLeavesPortFree : Prop :=
  ∀ (x y : HostTx) (hs : List HostTx) (s t : State), s.acqp = false → s.env.host = y :: hs →
    transact x s = .next t → (t.port = .err ∨ t.port = .errData 0x00#8) →
    t.acqp = false ∧ turn .host t = transact y { t with env := { host := hs, rx := t.env.rx, sched := t.env.sched } }

/-! ## The limiters -/

/-- R111, R119, R120: an ACQUIRE sets ACQP and ACQL, holds the port, and writes nothing else. -/
def Obligations.AcquireHoldsPort : Prop :=
  ∀ s : State,
    exec .acquireN s = .next { s with acqp := true, acql := .normal, port := .hold } ∧
    exec .acquireF s = .next { s with acqp := true, acql := .fast, port := .hold }

/-- R113, with R6: the intervals, exact, fitting 16 bits, and their values at the default TICK_HZ. -/
def Obligations.IntervalsFollowRates : Prop :=
  (∀ c : Config, c.wellFormed = true →
    2 * interval c .normal = c.tickHz ∧ 10 * interval c .fast = c.tickHz ∧
    (intervalWord c .normal).toNat = interval c .normal ∧ (intervalWord c .fast).toNat = interval c .fast) ∧
  interval Config.default .normal = 500 ∧ interval Config.default .fast = 100

/-- R114, R115, with R113's intervals: the TICK step, as the pseudocode of R115 has it. Where TICK_HZ is outside R6's
constraint the counter is reloaded with the interval modulo 2^16, the model's choice (log 5). -/
def Obligations.TickRefillsThenGrants : Prop :=
  ∀ s : State,
    let c0 : BitVec 16 := if 0 < s.limcntN.toNat then s.limcntN - 1#16 else 0#16
    let c1 : BitVec 16 := if 0 < s.limcntF.toNat then s.limcntF - 1#16 else 0#16
    turn .tick s = .next
      (if s.acqp = true ∧ (if s.acql = .normal then c0 else c1) = 0#16 then
        { s with
          limcntN := if s.acql = .normal then BitVec.ofNat 16 (s.cfg.tickHz / 2) else c0
          limcntF := if s.acql = .normal then c1 else BitVec.ofNat 16 (s.cfg.tickHz / 10)
          acqp := false
          port := .ok }
      else { s with limcntN := c0, limcntF := c1 })

/-- R111, R180: a pending ACQUIRE ends only by the granting TICK, which responds OK, or by reset, which does not. -/
def Obligations.OnlyGrantOrResetEndsHold : Prop :=
  ∀ (a : Agent) (s t : State), s.acqp = true → turn a s = .next t → t.acqp = false →
    (a = .tick ∧ grants s.acql s = true ∧ t.port = .ok) ∨ (a = .reset ∧ t.port = .silent)

/-- R116: an ACQUIRE of limiter l started when LIMCNT[l] = c is granted in the max(c, 1)-th TICK after it, whatever the
other agents do meanwhile (reset apart), and max(c, 1) is at most INTERVAL[l] in every state that meets R35: at the
default TICK_HZ 500 and 100 ticks. -/
def Obligations.AcquireGrantedWithinBound : Prop :=
  (interval Config.default .normal = 500 ∧ interval Config.default .fast = 100) ∧ ∀ (l : Limiter) (s : State), ∃ s', exec (acquireOf l) s = .next s' ∧ s'.errc = s.errc ∧
    (∀ (as : List Agent) (t : State), .reset ∉ as → runTurns as s' = .next t →
      as.count .tick < max (s.limcnt l).toNat 1 → t.acqp = true ∧ t.acql = l) ∧
    (∀ (as : List Agent) (t : State), .reset ∉ as → runTurns (as ++ [.tick]) s' = .next t →
      as.count .tick + 1 = max (s.limcnt l).toNat 1 →
      t.acqp = false ∧ t.port = .ok ∧ t.limcnt l = intervalWord s.cfg l) ∧
    (Invariants s → max (s.limcnt l).toNat 1 ≤ interval s.cfg l)

/-- R117: the spacing law. From a granting TICK of limiter l, over any run of turns without reset, the next grant of l is
at least INTERVAL[l] ticks later; and it is exactly that late if an ACQUIRE of l is already pending at that tick. -/
def Obligations.GrantSpacing : Prop :=
  ∀ (l : Limiter) (s s1 s2 : State) (as : List Agent), s.cfg.wellFormed = true → grants l s = true →
    turn .tick s = .next s1 → .reset ∉ as → runTurns as s1 = .next s2 →
    (grants l s2 = true → interval s.cfg l ≤ as.count .tick + 1) ∧
    (as.count .tick + 1 = interval s.cfg l → s2.acqp = true → s2.acql = l → grants l s2 = true)

/-- R118: the window law. In a run without reset of at most TICK_HZ ticks, NORMAL is granted at most 2 times and FAST at
most 10 times, from every state and whatever the agents do. -/
def Obligations.WindowLaw : Prop :=
  ∀ (s : State) (as : List Agent), s.cfg.wellFormed = true → .reset ∉ as → as.count .tick ≤ s.cfg.tickHz →
    grantCount .normal as s ≤ 2 ∧ grantCount .fast as s ≤ 10

/-- R122: k grants of limiter l in a run without reset take at least (k − 1) · INTERVAL[l] ticks after the first; at the
default TICK_HZ that is 9500 ticks for twenty of NORMAL and 1900 for twenty of FAST. -/
def Obligations.ManyGrantsTakeTheirIntervals : Prop :=
  (∀ (l : Limiter) (s : State) (as : List Agent), s.cfg.wellFormed = true → .reset ∉ as → 1 ≤ grantCount l as s →
    (grantCount l as s - 1) * interval s.cfg l ≤ as.count .tick - 1) ∧
  (20 - 1) * interval Config.default .normal = 9500 ∧ (20 - 1) * interval Config.default .fast = 1900

/-- R121: the limiters are independent: whatever the other counter holds, a TICK grants or not alike and leaves the same
own counter; and the counter of the limiter not granted only counts down. -/
def Obligations.LimitersAreIndependent : Prop :=
  ∀ (s t : State) (l m : Limiter) (v : BitVec 16), l ≠ m → s.acql = l → turn .tick s = .next t →
    t.limcnt m = countDown (s.limcnt m) ∧
    ∃ t', turn .tick (s.setLimcnt m v) = .next t' ∧ t'.acqp = t.acqp ∧ t'.port = t.port ∧ t'.limcnt l = t.limcnt l

/-- R29: no step but TICK and reset writes a limiter counter; SRST, a host step, does not. -/
def Obligations.LimiterCountersWrittenOnlyByTick : Prop :=
  ∀ (a : Agent) (s t : State), turn a s = .next t → a ≠ .tick → a ≠ .reset →
    t.limcntN = s.limcntN ∧ t.limcntF = s.limcntF

/-- R30: while ACQP = 0, ACQL has no effect on any rule: with another ACQL every agent's turn does the same, and only ACQL
itself may differ after it, and only while ACQP is still 0. -/
def Obligations.IdleAcqlIsUnobservable : Prop :=
  ∀ (a : Agent) (s t : State) (l : Limiter), s.acqp = false → turn a s = .next t →
    ∃ t', turn a { s with acql := l } = .next t' ∧ { t' with acql := t.acql } = t ∧ (t.acqp = true → t' = t)

/-! ## Reset and the whole machine -/

/-- R181, R183: every component after reset; STATUS reads 0x60. -/
def Obligations.ResetLeavesEverythingZero : Prop :=
  State.reset.pay = Vector.replicate 7 0x00#8 ∧ State.reset.plen = 0x00#8 ∧ State.reset.devid = 0x00#8 ∧
  State.reset.txf = Vector.replicate 11 0x00#8 ∧ State.reset.txidx = 0#4 ∧ State.reset.txv = false ∧
  State.reset.rxf = Vector.replicate 11 0x00#8 ∧ State.reset.rxcnt = 0#4 ∧ State.reset.rovr = false ∧
  State.reset.ckcalc = 0#7 ∧ State.reset.ckrecv = 0x00#8 ∧ State.reset.rxok = false ∧ State.reset.rstat = 0#3 ∧
  State.reset.errc = 0#3 ∧ errflgView State.reset = 0x00#8 ∧ State.reset.limcntN = 0#16 ∧
  State.reset.limcntF = 0#16 ∧ State.reset.acqp = false ∧ State.reset.acql = .normal ∧
  statusView State.reset = 0x60#8

/-- R180: the reset step, from every state, is the state after reset, with the parameters and the environment's plans
kept (log 9). -/
def Obligations.ResetStepRestoresReset : Prop :=
  ∀ s : State, turn .reset s = .next { State.reset with cfg := s.cfg, env := s.env }

/-- R182: after a reset step the first ACQUIRE of either limiter is granted at the next tick. -/
def Obligations.FirstAcquireAfterReset : Prop :=
  ∀ (s : State) (l : Limiter), ∃ t u v, turn .reset s = .next t ∧ exec (acquireOf l) t = .next u ∧ u.acqp = true ∧
    turn .tick u = .next v ∧ v.acqp = false ∧ v.port = .ok ∧ v.limcnt l = intervalWord s.cfg l

/-- R53 (c): DEVID, PLEN, PAY, TXF, CKCALC, CKRECV, RXOK, RSTAT, ERRC and ERRFLG are changed by host steps and reset
only. -/
def Obligations.HostRegistersChangedOnlyByHost : Prop :=
  ∀ (a : Agent) (s t : State), turn a s = .next t → a ≠ .host → a ≠ .reset →
    t.devid = s.devid ∧ t.plen = s.plen ∧ t.pay = s.pay ∧ t.txf = s.txf ∧ t.ckcalc = s.ckcalc ∧ t.ckrecv = s.ckrecv ∧
    t.rxok = s.rxok ∧ t.rstat = s.rstat ∧ t.errc = s.errc ∧ errflgView t = errflgView s

/-- R23, R194: while RXOK stays 1, no step alters the validated response, its count or its status. -/
def Obligations.ValidatedResponseIsStable : Prop :=
  ∀ s t : State, Invariants s → step s = .next t → s.rxok = true → t.rxok = true →
    t.rxf = s.rxf ∧ t.rxcnt = s.rxcnt ∧ t.rstat = s.rstat

/-- R35: the state after reset meets the invariants. -/
def Obligations.InvariantsHoldAtReset : Prop := Invariants State.reset

/-- R35: every step keeps the invariants, whatever the host issues, the link delivers and the schedule is. -/
def Obligations.EveryStepKeepsInvariants : Prop := ∀ s t : State, Invariants s → step s = .next t → Invariants t

/-- R35 with R155, U13: no state that meets the invariants is stuck, and after any number of steps the block still meets
them and still goes on: no fault of the block ever stops it. -/
def Obligations.RunsNeverStop : Prop :=
  ∀ (s : State) (as : List Agent), Invariants s → ∃ t, runTurns as s = .next t ∧ Invariants t ∧ Completes (step t)
end

