-- ==== Sys2Proof/Laws/State.lean ====
section
/-! SUPPORT. One lemma per field of `State` for each named update of it, true by `rfl`, so that no proof unfolds a record
update: the fields an update writes, and those it leaves. -/

namespace Sys2Proof.Laws
open Sys2Proof.Machine

variable (s : State)

/-! ## `respond`: A response touches the port only (R51) -/

@[simp] theorem respond_pay (p : PortOut) : (respond p s).pay = s.pay := rfl
@[simp] theorem respond_plen (p : PortOut) : (respond p s).plen = s.plen := rfl
@[simp] theorem respond_devid (p : PortOut) : (respond p s).devid = s.devid := rfl
@[simp] theorem respond_txf (p : PortOut) : (respond p s).txf = s.txf := rfl
@[simp] theorem respond_txidx (p : PortOut) : (respond p s).txidx = s.txidx := rfl
@[simp] theorem respond_txv (p : PortOut) : (respond p s).txv = s.txv := rfl
@[simp] theorem respond_rxf (p : PortOut) : (respond p s).rxf = s.rxf := rfl
@[simp] theorem respond_rxcnt (p : PortOut) : (respond p s).rxcnt = s.rxcnt := rfl
@[simp] theorem respond_rovr (p : PortOut) : (respond p s).rovr = s.rovr := rfl
@[simp] theorem respond_ckcalc (p : PortOut) : (respond p s).ckcalc = s.ckcalc := rfl
@[simp] theorem respond_ckrecv (p : PortOut) : (respond p s).ckrecv = s.ckrecv := rfl
@[simp] theorem respond_rxok (p : PortOut) : (respond p s).rxok = s.rxok := rfl
@[simp] theorem respond_rstat (p : PortOut) : (respond p s).rstat = s.rstat := rfl
@[simp] theorem respond_errc (p : PortOut) : (respond p s).errc = s.errc := rfl
@[simp] theorem respond_eia (p : PortOut) : (respond p s).eia = s.eia := rfl
@[simp] theorem respond_eck (p : PortOut) : (respond p s).eck = s.eck := rfl
@[simp] theorem respond_emf (p : PortOut) : (respond p s).emf = s.emf := rfl
@[simp] theorem respond_txovw (p : PortOut) : (respond p s).txovw = s.txovw := rfl
@[simp] theorem respond_limcntN (p : PortOut) : (respond p s).limcntN = s.limcntN := rfl
@[simp] theorem respond_limcntF (p : PortOut) : (respond p s).limcntF = s.limcntF := rfl
@[simp] theorem respond_acqp (p : PortOut) : (respond p s).acqp = s.acqp := rfl
@[simp] theorem respond_acql (p : PortOut) : (respond p s).acql = s.acql := rfl
@[simp] theorem respond_cfg (p : PortOut) : (respond p s).cfg = s.cfg := rfl
@[simp] theorem respond_env (p : PortOut) : (respond p s).env = s.env := rfl
@[simp] theorem respond_port (p : PortOut) : (respond p s).port = p := rfl
@[simp] theorem respond_line (p : PortOut) : (respond p s).line = s.line := rfl

/-! ## `record`: The record of a fault (R156, R157) -/

@[simp] theorem record_pay (c : Cause) : (record c s).pay = s.pay := rfl
@[simp] theorem record_plen (c : Cause) : (record c s).plen = s.plen := rfl
@[simp] theorem record_devid (c : Cause) : (record c s).devid = s.devid := rfl
@[simp] theorem record_txf (c : Cause) : (record c s).txf = s.txf := rfl
@[simp] theorem record_txidx (c : Cause) : (record c s).txidx = s.txidx := rfl
@[simp] theorem record_txv (c : Cause) : (record c s).txv = s.txv := rfl
@[simp] theorem record_rxf (c : Cause) : (record c s).rxf = s.rxf := rfl
@[simp] theorem record_rxcnt (c : Cause) : (record c s).rxcnt = s.rxcnt := rfl
@[simp] theorem record_rovr (c : Cause) : (record c s).rovr = s.rovr := rfl
@[simp] theorem record_ckcalc (c : Cause) : (record c s).ckcalc = s.ckcalc := rfl
@[simp] theorem record_ckrecv (c : Cause) : (record c s).ckrecv = s.ckrecv := rfl
@[simp] theorem record_rxok (c : Cause) : (record c s).rxok = s.rxok := rfl
@[simp] theorem record_rstat (c : Cause) : (record c s).rstat = s.rstat := rfl
@[simp] theorem record_errc (c : Cause) : (record c s).errc = causeCode c := rfl
@[simp] theorem record_eia (c : Cause) : (record c s).eia = (s.eia || isInvalidArgument c) := rfl
@[simp] theorem record_eck (c : Cause) : (record c s).eck = (s.eck || c == .checksumMismatch) := rfl
@[simp] theorem record_emf (c : Cause) : (record c s).emf = (s.emf || c == .malformedResponse) := rfl
@[simp] theorem record_txovw (c : Cause) : (record c s).txovw = s.txovw := rfl
@[simp] theorem record_limcntN (c : Cause) : (record c s).limcntN = s.limcntN := rfl
@[simp] theorem record_limcntF (c : Cause) : (record c s).limcntF = s.limcntF := rfl
@[simp] theorem record_acqp (c : Cause) : (record c s).acqp = s.acqp := rfl
@[simp] theorem record_acql (c : Cause) : (record c s).acql = s.acql := rfl
@[simp] theorem record_cfg (c : Cause) : (record c s).cfg = s.cfg := rfl
@[simp] theorem record_env (c : Cause) : (record c s).env = s.env := rfl
@[simp] theorem record_port (c : Cause) : (record c s).port = s.port := rfl
@[simp] theorem record_line (c : Cause) : (record c s).line = s.line := rfl

/-! ## `clearRecord`: Clearing the record (R132) -/

@[simp] theorem clearRecord_pay : (clearRecord s).pay = s.pay := rfl
@[simp] theorem clearRecord_plen : (clearRecord s).plen = s.plen := rfl
@[simp] theorem clearRecord_devid : (clearRecord s).devid = s.devid := rfl
@[simp] theorem clearRecord_txf : (clearRecord s).txf = s.txf := rfl
@[simp] theorem clearRecord_txidx : (clearRecord s).txidx = s.txidx := rfl
@[simp] theorem clearRecord_txv : (clearRecord s).txv = s.txv := rfl
@[simp] theorem clearRecord_rxf : (clearRecord s).rxf = s.rxf := rfl
@[simp] theorem clearRecord_rxcnt : (clearRecord s).rxcnt = s.rxcnt := rfl
@[simp] theorem clearRecord_rovr : (clearRecord s).rovr = s.rovr := rfl
@[simp] theorem clearRecord_ckcalc : (clearRecord s).ckcalc = s.ckcalc := rfl
@[simp] theorem clearRecord_ckrecv : (clearRecord s).ckrecv = s.ckrecv := rfl
@[simp] theorem clearRecord_rxok : (clearRecord s).rxok = s.rxok := rfl
@[simp] theorem clearRecord_rstat : (clearRecord s).rstat = s.rstat := rfl
@[simp] theorem clearRecord_errc : (clearRecord s).errc = 0#3 := rfl
@[simp] theorem clearRecord_eia : (clearRecord s).eia = false := rfl
@[simp] theorem clearRecord_eck : (clearRecord s).eck = false := rfl
@[simp] theorem clearRecord_emf : (clearRecord s).emf = false := rfl
@[simp] theorem clearRecord_txovw : (clearRecord s).txovw = false := rfl
@[simp] theorem clearRecord_limcntN : (clearRecord s).limcntN = s.limcntN := rfl
@[simp] theorem clearRecord_limcntF : (clearRecord s).limcntF = s.limcntF := rfl
@[simp] theorem clearRecord_acqp : (clearRecord s).acqp = s.acqp := rfl
@[simp] theorem clearRecord_acql : (clearRecord s).acql = s.acql := rfl
@[simp] theorem clearRecord_cfg : (clearRecord s).cfg = s.cfg := rfl
@[simp] theorem clearRecord_env : (clearRecord s).env = s.env := rfl
@[simp] theorem clearRecord_port : (clearRecord s).port = s.port := rfl
@[simp] theorem clearRecord_line : (clearRecord s).line = s.line := rfl

/-! ## `clearRx`: Emptying the receive side (R131) -/

@[simp] theorem clearRx_pay : (clearRx s).pay = s.pay := rfl
@[simp] theorem clearRx_plen : (clearRx s).plen = s.plen := rfl
@[simp] theorem clearRx_devid : (clearRx s).devid = s.devid := rfl
@[simp] theorem clearRx_txf : (clearRx s).txf = s.txf := rfl
@[simp] theorem clearRx_txidx : (clearRx s).txidx = s.txidx := rfl
@[simp] theorem clearRx_txv : (clearRx s).txv = s.txv := rfl
@[simp] theorem clearRx_rxf : (clearRx s).rxf = Vector.replicate 11 0#8 := rfl
@[simp] theorem clearRx_rxcnt : (clearRx s).rxcnt = 0#4 := rfl
@[simp] theorem clearRx_rovr : (clearRx s).rovr = false := rfl
@[simp] theorem clearRx_ckcalc : (clearRx s).ckcalc = s.ckcalc := rfl
@[simp] theorem clearRx_ckrecv : (clearRx s).ckrecv = s.ckrecv := rfl
@[simp] theorem clearRx_rxok : (clearRx s).rxok = false := rfl
@[simp] theorem clearRx_rstat : (clearRx s).rstat = 0#3 := rfl
@[simp] theorem clearRx_errc : (clearRx s).errc = s.errc := rfl
@[simp] theorem clearRx_eia : (clearRx s).eia = s.eia := rfl
@[simp] theorem clearRx_eck : (clearRx s).eck = s.eck := rfl
@[simp] theorem clearRx_emf : (clearRx s).emf = s.emf := rfl
@[simp] theorem clearRx_txovw : (clearRx s).txovw = s.txovw := rfl
@[simp] theorem clearRx_limcntN : (clearRx s).limcntN = s.limcntN := rfl
@[simp] theorem clearRx_limcntF : (clearRx s).limcntF = s.limcntF := rfl
@[simp] theorem clearRx_acqp : (clearRx s).acqp = s.acqp := rfl
@[simp] theorem clearRx_acql : (clearRx s).acql = s.acql := rfl
@[simp] theorem clearRx_cfg : (clearRx s).cfg = s.cfg := rfl
@[simp] theorem clearRx_env : (clearRx s).env = s.env := rfl
@[simp] theorem clearRx_port : (clearRx s).port = s.port := rfl
@[simp] theorem clearRx_line : (clearRx s).line = s.line := rfl

/-! ## `loadFrame`: Putting a frame on offer (R95, R99) -/

@[simp] theorem loadFrame_pay (f : Vector Byte 11) : (loadFrame f s).pay = s.pay := rfl
@[simp] theorem loadFrame_plen (f : Vector Byte 11) : (loadFrame f s).plen = s.plen := rfl
@[simp] theorem loadFrame_devid (f : Vector Byte 11) : (loadFrame f s).devid = s.devid := rfl
@[simp] theorem loadFrame_txf (f : Vector Byte 11) : (loadFrame f s).txf = f := rfl
@[simp] theorem loadFrame_txidx (f : Vector Byte 11) : (loadFrame f s).txidx = 0#4 := rfl
@[simp] theorem loadFrame_txv (f : Vector Byte 11) : (loadFrame f s).txv = true := rfl
@[simp] theorem loadFrame_rxf (f : Vector Byte 11) : (loadFrame f s).rxf = s.rxf := rfl
@[simp] theorem loadFrame_rxcnt (f : Vector Byte 11) : (loadFrame f s).rxcnt = s.rxcnt := rfl
@[simp] theorem loadFrame_rovr (f : Vector Byte 11) : (loadFrame f s).rovr = s.rovr := rfl
@[simp] theorem loadFrame_ckcalc (f : Vector Byte 11) : (loadFrame f s).ckcalc = s.ckcalc := rfl
@[simp] theorem loadFrame_ckrecv (f : Vector Byte 11) : (loadFrame f s).ckrecv = s.ckrecv := rfl
@[simp] theorem loadFrame_rxok (f : Vector Byte 11) : (loadFrame f s).rxok = s.rxok := rfl
@[simp] theorem loadFrame_rstat (f : Vector Byte 11) : (loadFrame f s).rstat = s.rstat := rfl
@[simp] theorem loadFrame_errc (f : Vector Byte 11) : (loadFrame f s).errc = s.errc := rfl
@[simp] theorem loadFrame_eia (f : Vector Byte 11) : (loadFrame f s).eia = s.eia := rfl
@[simp] theorem loadFrame_eck (f : Vector Byte 11) : (loadFrame f s).eck = s.eck := rfl
@[simp] theorem loadFrame_emf (f : Vector Byte 11) : (loadFrame f s).emf = s.emf := rfl
@[simp] theorem loadFrame_txovw (f : Vector Byte 11) : (loadFrame f s).txovw = (s.txovw || s.txv) := rfl
@[simp] theorem loadFrame_limcntN (f : Vector Byte 11) : (loadFrame f s).limcntN = s.limcntN := rfl
@[simp] theorem loadFrame_limcntF (f : Vector Byte 11) : (loadFrame f s).limcntF = s.limcntF := rfl
@[simp] theorem loadFrame_acqp (f : Vector Byte 11) : (loadFrame f s).acqp = s.acqp := rfl
@[simp] theorem loadFrame_acql (f : Vector Byte 11) : (loadFrame f s).acql = s.acql := rfl
@[simp] theorem loadFrame_cfg (f : Vector Byte 11) : (loadFrame f s).cfg = s.cfg := rfl
@[simp] theorem loadFrame_env (f : Vector Byte 11) : (loadFrame f s).env = s.env := rfl
@[simp] theorem loadFrame_port (f : Vector Byte 11) : (loadFrame f s).port = s.port := rfl
@[simp] theorem loadFrame_line (f : Vector Byte 11) : (loadFrame f s).line = s.line := rfl

/-! ## `startAcquire`: The hold (R111) -/

@[simp] theorem startAcquire_pay (l : Limiter) : (startAcquire l s).pay = s.pay := rfl
@[simp] theorem startAcquire_plen (l : Limiter) : (startAcquire l s).plen = s.plen := rfl
@[simp] theorem startAcquire_devid (l : Limiter) : (startAcquire l s).devid = s.devid := rfl
@[simp] theorem startAcquire_txf (l : Limiter) : (startAcquire l s).txf = s.txf := rfl
@[simp] theorem startAcquire_txidx (l : Limiter) : (startAcquire l s).txidx = s.txidx := rfl
@[simp] theorem startAcquire_txv (l : Limiter) : (startAcquire l s).txv = s.txv := rfl
@[simp] theorem startAcquire_rxf (l : Limiter) : (startAcquire l s).rxf = s.rxf := rfl
@[simp] theorem startAcquire_rxcnt (l : Limiter) : (startAcquire l s).rxcnt = s.rxcnt := rfl
@[simp] theorem startAcquire_rovr (l : Limiter) : (startAcquire l s).rovr = s.rovr := rfl
@[simp] theorem startAcquire_ckcalc (l : Limiter) : (startAcquire l s).ckcalc = s.ckcalc := rfl
@[simp] theorem startAcquire_ckrecv (l : Limiter) : (startAcquire l s).ckrecv = s.ckrecv := rfl
@[simp] theorem startAcquire_rxok (l : Limiter) : (startAcquire l s).rxok = s.rxok := rfl
@[simp] theorem startAcquire_rstat (l : Limiter) : (startAcquire l s).rstat = s.rstat := rfl
@[simp] theorem startAcquire_errc (l : Limiter) : (startAcquire l s).errc = s.errc := rfl
@[simp] theorem startAcquire_eia (l : Limiter) : (startAcquire l s).eia = s.eia := rfl
@[simp] theorem startAcquire_eck (l : Limiter) : (startAcquire l s).eck = s.eck := rfl
@[simp] theorem startAcquire_emf (l : Limiter) : (startAcquire l s).emf = s.emf := rfl
@[simp] theorem startAcquire_txovw (l : Limiter) : (startAcquire l s).txovw = s.txovw := rfl
@[simp] theorem startAcquire_limcntN (l : Limiter) : (startAcquire l s).limcntN = s.limcntN := rfl
@[simp] theorem startAcquire_limcntF (l : Limiter) : (startAcquire l s).limcntF = s.limcntF := rfl
@[simp] theorem startAcquire_acqp (l : Limiter) : (startAcquire l s).acqp = true := rfl
@[simp] theorem startAcquire_acql (l : Limiter) : (startAcquire l s).acql = l := rfl
@[simp] theorem startAcquire_cfg (l : Limiter) : (startAcquire l s).cfg = s.cfg := rfl
@[simp] theorem startAcquire_env (l : Limiter) : (startAcquire l s).env = s.env := rfl
@[simp] theorem startAcquire_port (l : Limiter) : (startAcquire l s).port = .hold := rfl
@[simp] theorem startAcquire_line (l : Limiter) : (startAcquire l s).line = s.line := rfl

/-! ## `refill`: TICK phase 1 (R114) -/

@[simp] theorem refill_pay : (refill s).pay = s.pay := rfl
@[simp] theorem refill_plen : (refill s).plen = s.plen := rfl
@[simp] theorem refill_devid : (refill s).devid = s.devid := rfl
@[simp] theorem refill_txf : (refill s).txf = s.txf := rfl
@[simp] theorem refill_txidx : (refill s).txidx = s.txidx := rfl
@[simp] theorem refill_txv : (refill s).txv = s.txv := rfl
@[simp] theorem refill_rxf : (refill s).rxf = s.rxf := rfl
@[simp] theorem refill_rxcnt : (refill s).rxcnt = s.rxcnt := rfl
@[simp] theorem refill_rovr : (refill s).rovr = s.rovr := rfl
@[simp] theorem refill_ckcalc : (refill s).ckcalc = s.ckcalc := rfl
@[simp] theorem refill_ckrecv : (refill s).ckrecv = s.ckrecv := rfl
@[simp] theorem refill_rxok : (refill s).rxok = s.rxok := rfl
@[simp] theorem refill_rstat : (refill s).rstat = s.rstat := rfl
@[simp] theorem refill_errc : (refill s).errc = s.errc := rfl
@[simp] theorem refill_eia : (refill s).eia = s.eia := rfl
@[simp] theorem refill_eck : (refill s).eck = s.eck := rfl
@[simp] theorem refill_emf : (refill s).emf = s.emf := rfl
@[simp] theorem refill_txovw : (refill s).txovw = s.txovw := rfl
@[simp] theorem refill_limcntN : (refill s).limcntN = countDown s.limcntN := rfl
@[simp] theorem refill_limcntF : (refill s).limcntF = countDown s.limcntF := rfl
@[simp] theorem refill_acqp : (refill s).acqp = s.acqp := rfl
@[simp] theorem refill_acql : (refill s).acql = s.acql := rfl
@[simp] theorem refill_cfg : (refill s).cfg = s.cfg := rfl
@[simp] theorem refill_env : (refill s).env = s.env := rfl
@[simp] theorem refill_port : (refill s).port = s.port := rfl
@[simp] theorem refill_line : (refill s).line = s.line := rfl

/-! ## `invalidate`: What a failing DECODE does before it raises (R102) -/

@[simp] theorem invalidate_pay : (invalidate s).pay = s.pay := rfl
@[simp] theorem invalidate_plen : (invalidate s).plen = s.plen := rfl
@[simp] theorem invalidate_devid : (invalidate s).devid = s.devid := rfl
@[simp] theorem invalidate_txf : (invalidate s).txf = s.txf := rfl
@[simp] theorem invalidate_txidx : (invalidate s).txidx = s.txidx := rfl
@[simp] theorem invalidate_txv : (invalidate s).txv = s.txv := rfl
@[simp] theorem invalidate_rxf : (invalidate s).rxf = s.rxf := rfl
@[simp] theorem invalidate_rxcnt : (invalidate s).rxcnt = s.rxcnt := rfl
@[simp] theorem invalidate_rovr : (invalidate s).rovr = s.rovr := rfl
@[simp] theorem invalidate_ckcalc : (invalidate s).ckcalc = s.ckcalc := rfl
@[simp] theorem invalidate_ckrecv : (invalidate s).ckrecv = s.ckrecv := rfl
@[simp] theorem invalidate_rxok : (invalidate s).rxok = false := rfl
@[simp] theorem invalidate_rstat : (invalidate s).rstat = 0#3 := rfl
@[simp] theorem invalidate_errc : (invalidate s).errc = s.errc := rfl
@[simp] theorem invalidate_eia : (invalidate s).eia = s.eia := rfl
@[simp] theorem invalidate_eck : (invalidate s).eck = s.eck := rfl
@[simp] theorem invalidate_emf : (invalidate s).emf = s.emf := rfl
@[simp] theorem invalidate_txovw : (invalidate s).txovw = s.txovw := rfl
@[simp] theorem invalidate_limcntN : (invalidate s).limcntN = s.limcntN := rfl
@[simp] theorem invalidate_limcntF : (invalidate s).limcntF = s.limcntF := rfl
@[simp] theorem invalidate_acqp : (invalidate s).acqp = s.acqp := rfl
@[simp] theorem invalidate_acql : (invalidate s).acql = s.acql := rfl
@[simp] theorem invalidate_cfg : (invalidate s).cfg = s.cfg := rfl
@[simp] theorem invalidate_env : (invalidate s).env = s.env := rfl
@[simp] theorem invalidate_port : (invalidate s).port = s.port := rfl
@[simp] theorem invalidate_line : (invalidate s).line = s.line := rfl

/-! ## `captureChecksums`: The two sides of DECODE's comparison (R102) -/

@[simp] theorem captureChecksums_pay : (captureChecksums s).pay = s.pay := rfl
@[simp] theorem captureChecksums_plen : (captureChecksums s).plen = s.plen := rfl
@[simp] theorem captureChecksums_devid : (captureChecksums s).devid = s.devid := rfl
@[simp] theorem captureChecksums_txf : (captureChecksums s).txf = s.txf := rfl
@[simp] theorem captureChecksums_txidx : (captureChecksums s).txidx = s.txidx := rfl
@[simp] theorem captureChecksums_txv : (captureChecksums s).txv = s.txv := rfl
@[simp] theorem captureChecksums_rxf : (captureChecksums s).rxf = s.rxf := rfl
@[simp] theorem captureChecksums_rxcnt : (captureChecksums s).rxcnt = s.rxcnt := rfl
@[simp] theorem captureChecksums_rovr : (captureChecksums s).rovr = s.rovr := rfl
@[simp] theorem captureChecksums_ckcalc : (captureChecksums s).ckcalc = cksum7 (bodyOf s.rxf) := rfl
@[simp] theorem captureChecksums_ckrecv : (captureChecksums s).ckrecv = s.rxf[10] := rfl
@[simp] theorem captureChecksums_rxok : (captureChecksums s).rxok = s.rxok := rfl
@[simp] theorem captureChecksums_rstat : (captureChecksums s).rstat = s.rstat := rfl
@[simp] theorem captureChecksums_errc : (captureChecksums s).errc = s.errc := rfl
@[simp] theorem captureChecksums_eia : (captureChecksums s).eia = s.eia := rfl
@[simp] theorem captureChecksums_eck : (captureChecksums s).eck = s.eck := rfl
@[simp] theorem captureChecksums_emf : (captureChecksums s).emf = s.emf := rfl
@[simp] theorem captureChecksums_txovw : (captureChecksums s).txovw = s.txovw := rfl
@[simp] theorem captureChecksums_limcntN : (captureChecksums s).limcntN = s.limcntN := rfl
@[simp] theorem captureChecksums_limcntF : (captureChecksums s).limcntF = s.limcntF := rfl
@[simp] theorem captureChecksums_acqp : (captureChecksums s).acqp = s.acqp := rfl
@[simp] theorem captureChecksums_acql : (captureChecksums s).acql = s.acql := rfl
@[simp] theorem captureChecksums_cfg : (captureChecksums s).cfg = s.cfg := rfl
@[simp] theorem captureChecksums_env : (captureChecksums s).env = s.env := rfl
@[simp] theorem captureChecksums_port : (captureChecksums s).port = s.port := rfl
@[simp] theorem captureChecksums_line : (captureChecksums s).line = s.line := rfl

/-! ## `quiet`: The outputs of a step are over (log 4) -/

@[simp] theorem quiet_pay : (quiet s).pay = s.pay := rfl
@[simp] theorem quiet_plen : (quiet s).plen = s.plen := rfl
@[simp] theorem quiet_devid : (quiet s).devid = s.devid := rfl
@[simp] theorem quiet_txf : (quiet s).txf = s.txf := rfl
@[simp] theorem quiet_txidx : (quiet s).txidx = s.txidx := rfl
@[simp] theorem quiet_txv : (quiet s).txv = s.txv := rfl
@[simp] theorem quiet_rxf : (quiet s).rxf = s.rxf := rfl
@[simp] theorem quiet_rxcnt : (quiet s).rxcnt = s.rxcnt := rfl
@[simp] theorem quiet_rovr : (quiet s).rovr = s.rovr := rfl
@[simp] theorem quiet_ckcalc : (quiet s).ckcalc = s.ckcalc := rfl
@[simp] theorem quiet_ckrecv : (quiet s).ckrecv = s.ckrecv := rfl
@[simp] theorem quiet_rxok : (quiet s).rxok = s.rxok := rfl
@[simp] theorem quiet_rstat : (quiet s).rstat = s.rstat := rfl
@[simp] theorem quiet_errc : (quiet s).errc = s.errc := rfl
@[simp] theorem quiet_eia : (quiet s).eia = s.eia := rfl
@[simp] theorem quiet_eck : (quiet s).eck = s.eck := rfl
@[simp] theorem quiet_emf : (quiet s).emf = s.emf := rfl
@[simp] theorem quiet_txovw : (quiet s).txovw = s.txovw := rfl
@[simp] theorem quiet_limcntN : (quiet s).limcntN = s.limcntN := rfl
@[simp] theorem quiet_limcntF : (quiet s).limcntF = s.limcntF := rfl
@[simp] theorem quiet_acqp : (quiet s).acqp = s.acqp := rfl
@[simp] theorem quiet_acql : (quiet s).acql = s.acql := rfl
@[simp] theorem quiet_cfg : (quiet s).cfg = s.cfg := rfl
@[simp] theorem quiet_env : (quiet s).env = s.env := rfl
@[simp] theorem quiet_port : (quiet s).port = .silent := rfl
@[simp] theorem quiet_line : (quiet s).line = none := rfl

/-! ## `State.setLimcnt` and `State.limcnt` -/

@[simp] theorem setLimcnt_pay (l : Limiter) (v : BitVec 16) : (s.setLimcnt l v).pay = s.pay := by cases l <;> rfl
@[simp] theorem setLimcnt_plen (l : Limiter) (v : BitVec 16) : (s.setLimcnt l v).plen = s.plen := by cases l <;> rfl
@[simp] theorem setLimcnt_devid (l : Limiter) (v : BitVec 16) : (s.setLimcnt l v).devid = s.devid := by cases l <;> rfl
@[simp] theorem setLimcnt_txf (l : Limiter) (v : BitVec 16) : (s.setLimcnt l v).txf = s.txf := by cases l <;> rfl
@[simp] theorem setLimcnt_txidx (l : Limiter) (v : BitVec 16) : (s.setLimcnt l v).txidx = s.txidx := by cases l <;> rfl
@[simp] theorem setLimcnt_txv (l : Limiter) (v : BitVec 16) : (s.setLimcnt l v).txv = s.txv := by cases l <;> rfl
@[simp] theorem setLimcnt_rxf (l : Limiter) (v : BitVec 16) : (s.setLimcnt l v).rxf = s.rxf := by cases l <;> rfl
@[simp] theorem setLimcnt_rxcnt (l : Limiter) (v : BitVec 16) : (s.setLimcnt l v).rxcnt = s.rxcnt := by cases l <;> rfl
@[simp] theorem setLimcnt_rovr (l : Limiter) (v : BitVec 16) : (s.setLimcnt l v).rovr = s.rovr := by cases l <;> rfl
@[simp] theorem setLimcnt_ckcalc (l : Limiter) (v : BitVec 16) : (s.setLimcnt l v).ckcalc = s.ckcalc := by cases l <;> rfl
@[simp] theorem setLimcnt_ckrecv (l : Limiter) (v : BitVec 16) : (s.setLimcnt l v).ckrecv = s.ckrecv := by cases l <;> rfl
@[simp] theorem setLimcnt_rxok (l : Limiter) (v : BitVec 16) : (s.setLimcnt l v).rxok = s.rxok := by cases l <;> rfl
@[simp] theorem setLimcnt_rstat (l : Limiter) (v : BitVec 16) : (s.setLimcnt l v).rstat = s.rstat := by cases l <;> rfl
@[simp] theorem setLimcnt_errc (l : Limiter) (v : BitVec 16) : (s.setLimcnt l v).errc = s.errc := by cases l <;> rfl
@[simp] theorem setLimcnt_eia (l : Limiter) (v : BitVec 16) : (s.setLimcnt l v).eia = s.eia := by cases l <;> rfl
@[simp] theorem setLimcnt_eck (l : Limiter) (v : BitVec 16) : (s.setLimcnt l v).eck = s.eck := by cases l <;> rfl
@[simp] theorem setLimcnt_emf (l : Limiter) (v : BitVec 16) : (s.setLimcnt l v).emf = s.emf := by cases l <;> rfl
@[simp] theorem setLimcnt_txovw (l : Limiter) (v : BitVec 16) : (s.setLimcnt l v).txovw = s.txovw := by cases l <;> rfl
@[simp] theorem setLimcnt_acqp (l : Limiter) (v : BitVec 16) : (s.setLimcnt l v).acqp = s.acqp := by cases l <;> rfl
@[simp] theorem setLimcnt_acql (l : Limiter) (v : BitVec 16) : (s.setLimcnt l v).acql = s.acql := by cases l <;> rfl
@[simp] theorem setLimcnt_cfg (l : Limiter) (v : BitVec 16) : (s.setLimcnt l v).cfg = s.cfg := by cases l <;> rfl
@[simp] theorem setLimcnt_env (l : Limiter) (v : BitVec 16) : (s.setLimcnt l v).env = s.env := by cases l <;> rfl
@[simp] theorem setLimcnt_port (l : Limiter) (v : BitVec 16) : (s.setLimcnt l v).port = s.port := by cases l <;> rfl
@[simp] theorem setLimcnt_line (l : Limiter) (v : BitVec 16) : (s.setLimcnt l v).line = s.line := by cases l <;> rfl

@[simp] theorem limcnt_normal : s.limcnt .normal = s.limcntN := rfl

@[simp] theorem limcnt_fast : s.limcnt .fast = s.limcntF := rfl

@[simp] theorem setLimcnt_limcnt_self (l : Limiter) (v : BitVec 16) : (s.setLimcnt l v).limcnt l = v := by cases l <;> rfl

theorem setLimcnt_limcnt_other {l m : Limiter} (h : m ≠ l) (v : BitVec 16) :
    (s.setLimcnt l v).limcnt m = s.limcnt m := by
  cases l <;> cases m <;> first | rfl | exact absurd rfl h

@[simp] theorem refill_limcnt (l : Limiter) : (refill s).limcnt l = countDown (s.limcnt l) := by cases l <;> rfl

end Sys2Proof.Laws
end

