-- ==== Sys2Proof/Laws/Codec.lean ====
section
/-! SUPPORT. The outcomes of ENCODE and DECODE, said once, with the condition of each. -/

namespace Sys2Proof.Laws
open Sys2Proof.Machine

variable (s : State)

/-- ENCODE's device id check refuses exactly ids 0 and 100 to 255, where it is on (R97). -/
theorem devidRefused_iff :
    devidRefused s = true ↔ s.cfg.checkDevid = true ∧ (s.devid.toNat = 0 ∨ 100 ≤ s.devid.toNat) := by
  simp only [devidRefused, devidMin, devidMax, Bool.and_eq_true, Bool.or_eq_true, decide_eq_true_eq]
  exact and_congr_right fun _ => by omega

/-- ENCODE takes cause 1, or cause 2, or loads the staged frame (R95). -/
theorem execEncode_cases :
    (7 < s.plen.toNat ∧ execEncode s = .next (raise .payloadLength s)) ∨
    (¬ 7 < s.plen.toNat ∧ devidRefused s = true ∧ execEncode s = .next (raise .deviceId s)) ∨
    (¬ 7 < s.plen.toNat ∧ devidRefused s = false ∧
      execEncode s = .next (respond .ok (loadFrame (stagedFrame s) s))) := by
  by_cases h : 7 < s.plen.toNat
  · exact .inl ⟨h, by simp [execEncode, payloadMax, h]⟩
  · cases h' : devidRefused s
    · exact .inr (.inr ⟨h, rfl, by simp [execEncode, payloadMax, h, h']⟩)
    · exact .inr (.inl ⟨h, rfl, by simp [execEncode, payloadMax, h, h']⟩)

/-- DECODE takes cause 6, or succeeds, or takes cause 5 (R102). -/
theorem execDecode_cases :
    ((s.rxcnt ≠ 11#4 ∨ s.rovr = true) ∧ execDecode s = .next (raise .malformedResponse (invalidate s))) ∨
    (s.rxcnt = 11#4 ∧ s.rovr = false ∧ frameOk s.rxf = true ∧
      execDecode s = .next (respond .ok { captureChecksums s with rxok := true, rstat := statusOf s.rxf })) ∨
    (s.rxcnt = 11#4 ∧ s.rovr = false ∧ frameOk s.rxf = false ∧
      execDecode s = .next (raise .checksumMismatch (invalidate (captureChecksums s)))) := by
  by_cases h : s.rxcnt ≠ 11#4 ∨ s.rovr = true
  · exact .inl ⟨h, by simp only [execDecode, if_pos h]⟩
  · have h' : s.rxcnt = 11#4 ∧ s.rovr = false := by simpa using h
    cases hf : frameOk s.rxf
    · exact .inr (.inr ⟨h'.1, h'.2, rfl, by simp [execDecode, if_neg h, hf]⟩)
    · exact .inr (.inl ⟨h'.1, h'.2, rfl, by simp [execDecode, if_neg h, hf]⟩)

end Sys2Proof.Laws
end

