-- ==== Sys2Proof/Laws/Ops.lean ====
section
/-! SUPPORT. What each shared operation can do, said once: deliveries, takes, the limiter's countdown and TICK. -/

namespace Sys2Proof.Laws
open Sys2Proof.Machine

variable (s : State)

/-! ## Deliveries and takes -/

/-- A delivery stores while the buffer has room and sets ROVR otherwise (R134, R135). -/
theorem rxDeliver_cases (b : Byte) :
    (∃ h : s.rxcnt.toNat < 11,
      rxDeliver b s = { s with rxf := s.rxf.set s.rxcnt.toNat b h, rxcnt := s.rxcnt + 1#4 }) ∨
    (¬ s.rxcnt.toNat < 11 ∧ rxDeliver b s = { s with rovr := true }) := by
  by_cases h : s.rxcnt.toNat < 11
  · exact .inl ⟨h, by simp [rxDeliver, h]⟩
  · exact .inr ⟨h, by simp [rxDeliver, h]⟩

/-- A delivery leaves the transmit side, the limiters, the parameters and the environment (R134). -/
theorem rxDeliver_frame (b : Byte) :
    (rxDeliver b s).txf = s.txf ∧ (rxDeliver b s).txidx = s.txidx ∧ (rxDeliver b s).txv = s.txv ∧
    (rxDeliver b s).limcntN = s.limcntN ∧ (rxDeliver b s).limcntF = s.limcntF ∧ (rxDeliver b s).acqp = s.acqp ∧
    (rxDeliver b s).acql = s.acql ∧ (rxDeliver b s).cfg = s.cfg ∧ (rxDeliver b s).env = s.env ∧
    (rxDeliver b s).line = s.line := by
  rcases rxDeliver_cases s b with ⟨_, e⟩ | ⟨_, e⟩ <;> rw [e] <;> simp

/-- A take that answers a next state took TXF[TXIDX] (R136). -/
theorem txTake_next {t : State} (h : txTake s = .next t) :
    ∃ hi : s.txidx.toNat < 11, t = { s with
      line := some s.txf[s.txidx.toNat], txidx := s.txidx + 1#4, txv := s.txv && s.txidx != 10#4 } := by
  unfold txTake at h
  split at h
  · next hi => exact ⟨hi, by simpa using h.symm⟩
  · cases h

/-! ## Limiters -/

/-- A counter loses one and stops at 0 (R114). -/
theorem countDown_toNat (c : BitVec 16) : (countDown c).toNat = c.toNat - 1 := by
  unfold countDown
  split
  · next h => simp [h]
  · next h =>
    have : c.toNat ≠ 0 := fun e => h (BitVec.eq_of_toNat_eq (by simpa using e))
    rw [BitVec.toNat_sub_of_le (by simp [BitVec.le_def]; omega)]
    simp

/-- A TICK either only counts down or grants the pending limiter (R115). -/
theorem tick_cases :
    (grantDue (refill s) = false ∧ tick s = refill s) ∨
    (s.acqp = true ∧ countDown (s.limcnt s.acql) = 0#16 ∧
      tick s = respond .ok { (refill s).setLimcnt s.acql (intervalWord s.cfg s.acql) with acqp := false }) := by
  by_cases h : grantDue (refill s) = true
  · refine .inr ?_
    have h' := h
    simp only [grantDue, Bool.and_eq_true, beq_iff_eq, refill_acqp, refill_acql, refill_limcnt] at h'
    exact ⟨h'.1, h'.2, by simp [tick, grant, h]⟩
  · have h : grantDue (refill s) = false := by simpa using h
    exact .inl ⟨h, by simp [tick, grant, h]⟩

/-- A TICK leaves the transmit side, the parameters and the environment (R115). -/
theorem tick_frame :
    (tick s).txf = s.txf ∧ (tick s).txidx = s.txidx ∧ (tick s).txv = s.txv ∧ (tick s).cfg = s.cfg ∧
    (tick s).env = s.env ∧ (tick s).line = s.line := by
  rcases tick_cases s with ⟨_, e⟩ | ⟨_, _, e⟩ <;> rw [e] <;> simp

/-- A TICK grants limiter l exactly when an ACQUIRE of l is pending and its counter is at most 1 before it (R115). -/
theorem grants_iff (l : Limiter) : grants l s = true ↔ s.acqp = true ∧ s.acql = l ∧ (s.limcnt l).toNat ≤ 1 := by
  have hz : ∀ c : BitVec 16, countDown c = 0#16 ↔ c.toNat ≤ 1 := by
    intro c
    rw [← BitVec.toNat_inj, countDown_toNat]
    simp; omega
  constructor
  · intro h
    simp only [grants, grantDue, Bool.and_eq_true, beq_iff_eq, refill_acqp, refill_acql, refill_limcnt] at h
    obtain ⟨⟨hp, hc⟩, rfl⟩ := h
    exact ⟨hp, rfl, (hz _).1 hc⟩
  · rintro ⟨hp, rfl, hc⟩
    simp [grants, grantDue, hp, (hz _).2 hc]

/-- TICK_HZ within R6's constraint keeps INTERVAL[l] within 16 bits and at least 1. -/
theorem intervalWord_toNat {c : Config} (h : c.wellFormed = true) (l : Limiter) :
    (intervalWord c l).toNat = interval c l ∧ 1 ≤ interval c l := by
  simp only [Config.wellFormed, Bool.and_eq_true, decide_eq_true_eq] at h
  obtain ⟨⟨h0, h1⟩, h2⟩ := h
  simp only [intervalWord, BitVec.toNat_ofNat]
  cases l <;> simp only [interval, rate] <;> omega

end Sys2Proof.Laws
end

