-- ==== Sys2Proof/Laws/PerInstr.lean ====
section
/-! SUPPORT. Statements made per operation, one lemma per constructor (LAWS.json). `RoundTrip`: the operation's word is
its own (30_encoding.md R75, R79). -/

namespace Sys2Proof.Laws.RoundTrip

/-- The operation is well formed, and its word decodes to it. -/
def Statement (i : Instr) : Prop := i.wellFormed = true ∧ decode (encode i) = .ok i

theorem nop : Statement .nop := ⟨rfl, rfl⟩
theorem encode : Statement .encode := ⟨rfl, rfl⟩
theorem cksumT : Statement .cksumT := ⟨rfl, rfl⟩
theorem cksumR : Statement .cksumR := ⟨rfl, rfl⟩
theorem decode : Statement .decode := ⟨rfl, rfl⟩
theorem rxclr : Statement .rxclr := ⟨rfl, rfl⟩
theorem clrerr : Statement .clrerr := ⟨rfl, rfl⟩
theorem acquireN : Statement .acquireN := ⟨rfl, rfl⟩
theorem acquireF : Statement .acquireF := ⟨rfl, rfl⟩
theorem srst : Statement .srst := ⟨rfl, rfl⟩

end Sys2Proof.Laws.RoundTrip
end

