-- ==== Sys2Proof/Laws/Port.lean ====
section
/-! SUPPORT. What a transaction of the host and a turn of an agent can do, said once. -/

namespace Sys2Proof.Laws
open Sys2Proof.Machine

/-- The words that decode to an operation are its own word and no other. -/
theorem eq_encode_of_decode {w : Byte} {i : Instr} (h : decode w = .ok i) : w = encode i := by
  cases i <;> revert w <;> decide

/-- A word that is no operation is refused under its own value. -/
theorem decode_error {w : Byte} {e : DecodeError} (h : decode w = .error e) : e = .reservedWord w := by
  unfold decode decodeFormatO at h
  split_ifs at h
  simpa using h.symm

/-- Everything a host transaction on a free port can do: a good read, a register write, a delivery, an operation, or a
fault with cause 4 or 3 (R42, R43, R139). -/
theorem transact_cases {x : HostTx} {s t : State} (h : transact x s = .next t) :
    (∃ a d, x = .rd a ∧ readAddr s a = some d ∧ t = respond (.okData d) s) ∨
    (∃ a, x = .rd a ∧ readAddr s a = none ∧ t = raiseOnRead .registerAccess s) ∨
    (∃ a v, x = .wr a v ∧ locOf a = .devid ∧ t = respond .ok { s with devid := v }) ∨
    (∃ a v, x = .wr a v ∧ locOf a = .plen ∧ t = respond .ok { s with plen := v }) ∨
    (∃ a v i, x = .wr a v ∧ locOf a = .pay i ∧ t = respond .ok { s with pay := s.pay.set i.val v i.isLt }) ∨
    (∃ a v, x = .wr a v ∧ locOf a = .rxpush ∧ t = respond .ok (rxDeliver v s)) ∨
    (∃ a v, x = .wr a v ∧ ((locOf a).access = .ro ∨ (locOf a).access = .none) ∧ t = raise .registerAccess s) ∨
    (∃ a w, x = .wr a w ∧ locOf a = .cmd ∧ decode w = .error (.reservedWord w) ∧ t = raise .operationWord s) ∨
    (∃ a i, x = .wr a (encode i) ∧ locOf a = .cmd ∧ exec i s = .next t) := by
  cases x with
  | rd a =>
    simp only [transact, hostRead] at h
    split at h
    · next d hd => exact .inl ⟨a, d, rfl, hd, by simpa using h.symm⟩
    · next hd => exact .inr (.inl ⟨a, rfl, hd, by simpa using h.symm⟩)
  | wr a v =>
    refine .inr (.inr ?_)
    simp only [transact, hostWrite] at h
    cases hl : locOf a <;> simp only [hl, startOperation] at h
    case devid => exact .inl ⟨a, v, rfl, hl, by simpa using h.symm⟩
    case plen => exact .inr (.inl ⟨a, v, rfl, hl, by simpa using h.symm⟩)
    case pay i => exact .inr (.inr (.inl ⟨a, v, i, rfl, hl, by simpa using h.symm⟩))
    case rxpush => exact .inr (.inr (.inr (.inl ⟨a, v, rfl, hl, by simpa using h.symm⟩)))
    case cmd =>
      refine .inr (.inr (.inr (.inr (.inr ?_))))
      cases hd : decode v with
      | ok i =>
        simp only [hd] at h
        have := eq_encode_of_decode hd
        subst this
        exact .inr ⟨a, i, rfl, hl, h⟩
      | error e =>
        simp only [hd] at h
        exact .inl ⟨a, v, rfl, hl, decode_error hd ▸ hd, by simpa using h.symm⟩
    all_goals
      exact .inr (.inr (.inr (.inr (.inl ⟨a, v, rfl, by simp [hl, Loc.access], by simpa using h.symm⟩))))

/-- CMD stands at address 0x00 and nowhere else (R41). -/
theorem locOf_eq_cmd {a : Addr} (h : locOf a = .cmd) : a = 0x00#6 := by
  revert a; decide

/-- Everything an operation can do, by operation, with the codec's three outcomes of each told apart. -/
theorem exec_cases {i : Instr} {s t : State} (h : exec i s = .next t) :
    (i = .nop ∧ t = respond .ok s) ∨
    (i = .encode ∧ (t = raise .payloadLength s ∨ t = raise .deviceId s ∨
      (s.plen.toNat ≤ 7 ∧ devidRefused s = false ∧ t = respond .ok (loadFrame (stagedFrame s) s)))) ∨
    (i = .cksumT ∧ t = respond .ok { s with ckcalc := cksum7 (bodyOf s.txf) }) ∨
    (i = .cksumR ∧ t = respond .ok { s with ckcalc := cksum7 (bodyOf s.rxf) }) ∨
    (i = .decode ∧ (t = raise .malformedResponse (invalidate s) ∨
      t = raise .checksumMismatch (invalidate (captureChecksums s)) ∨
      (s.rxcnt = 11#4 ∧ s.rovr = false ∧ frameOk s.rxf = true ∧
        t = respond .ok { captureChecksums s with rxok := true, rstat := statusOf s.rxf }))) ∨
    (i = .rxclr ∧ t = respond .ok (clearRx s)) ∨
    (i = .clrerr ∧ t = respond .ok (clearRecord s)) ∨
    (∃ l, i = acquireOf l ∧ t = startAcquire l s) ∨
    (i = .srst ∧ t = respond .ok (softReset s)) := by
  cases i <;> simp only [exec] at h
  case nop => exact .inl ⟨rfl, by simpa [execNop] using h.symm⟩
  case encode =>
    refine .inr (.inl ⟨rfl, ?_⟩)
    rcases execEncode_cases s with ⟨_, e⟩ | ⟨_, _, e⟩ | ⟨hp, hd, e⟩ <;> rw [e] at h <;> cases h
    · exact .inl rfl
    · exact .inr (.inl rfl)
    · exact .inr (.inr ⟨by omega, hd, rfl⟩)
  case cksumT => exact .inr (.inr (.inl ⟨rfl, by simpa [execCksumT] using h.symm⟩))
  case cksumR => exact .inr (.inr (.inr (.inl ⟨rfl, by simpa [execCksumR] using h.symm⟩)))
  case decode =>
    refine .inr (.inr (.inr (.inr (.inl ⟨rfl, ?_⟩))))
    rcases execDecode_cases s with ⟨_, e⟩ | ⟨hc, ho, hf, e⟩ | ⟨_, _, _, e⟩ <;> rw [e] at h <;> cases h
    · exact .inl rfl
    · exact .inr (.inr ⟨hc, ho, hf, rfl⟩)
    · exact .inr (.inl rfl)
  case rxclr => exact .inr (.inr (.inr (.inr (.inr (.inl ⟨rfl, by simpa [execRxclr] using h.symm⟩)))))
  case clrerr => exact .inr (.inr (.inr (.inr (.inr (.inr (.inl ⟨rfl, by simpa [execClrerr] using h.symm⟩))))))
  case acquireN =>
    exact .inr (.inr (.inr (.inr (.inr (.inr (.inr (.inl ⟨.normal, rfl, by simpa [execAcquireN] using h.symm⟩)))))))
  case acquireF =>
    exact .inr (.inr (.inr (.inr (.inr (.inr (.inr (.inl ⟨.fast, rfl, by simpa [execAcquireF] using h.symm⟩)))))))
  case srst =>
    exact .inr (.inr (.inr (.inr (.inr (.inr (.inr (.inr ⟨rfl, by simpa [execSrst] using h.symm⟩)))))))

/-- The operations but ENCODE and SRST leave the transmit side, the environment and the line. -/
theorem exec_frame_tx {i : Instr} {s t : State} (h : exec i s = .next t) (he : i ≠ .encode) (hs : i ≠ .srst) :
    t.txf = s.txf ∧ t.txidx = s.txidx ∧ t.txv = s.txv ∧ t.env = s.env ∧ t.line = s.line := by
  rcases exec_cases h with ⟨_, e⟩ | ⟨hi, _⟩ | ⟨_, e⟩ | ⟨_, e⟩ | ⟨_, e | e | ⟨_, _, _, e⟩⟩ | ⟨_, e⟩ | ⟨_, e⟩ | ⟨_, _, e⟩ | ⟨hi, _⟩
  · subst e; simp
  · exact absurd hi he
  · subst e; simp
  · subst e; simp
  · subst e; simp [raise]
  · subst e; simp [raise]
  · subst e; simp
  · subst e; simp
  · subst e; simp
  · subst e; simp
  · exact absurd hi hs

/-- The transactions but a write of ENCODE or SRST to CMD leave the transmit side, the environment and the line. -/
theorem transact_frame_tx {x : HostTx} {s t : State} (h : transact x s = .next t)
    (he : x ≠ .wr 0x00#6 0x01#8) (hs : x ≠ .wr 0x00#6 0x0F#8) :
    t.txf = s.txf ∧ t.txidx = s.txidx ∧ t.txv = s.txv ∧ t.env = s.env ∧ t.line = s.line := by
  rcases transact_cases h with ⟨_, _, _, _, e⟩ | ⟨_, _, _, e⟩ | ⟨_, _, _, _, e⟩ | ⟨_, _, _, _, e⟩ | ⟨_, _, _, _, _, e⟩ |
    ⟨_, v, _, _, e⟩ | ⟨_, _, _, _, e⟩ | ⟨_, _, _, _, _, e⟩ | ⟨a, i, hx, hl, e⟩
  · subst e; simp
  · subst e; simp [raiseOnRead]
  · subst e; simp
  · subst e; simp
  · subst e; simp
  · subst e; simp [rxDeliver_frame s v]
  · subst e; simp [raise]
  · subst e; simp [raise]
  · have ha := locOf_eq_cmd hl
    subst ha
    exact exec_frame_tx e (by rintro rfl; exact he hx) (by rintro rfl; exact hs hx)

/-- Every operation answers a next state, in every state: its faults are next states too (R155). -/
theorem exec_completes (i : Instr) (s : State) : Completes (exec i s) := by
  cases i <;> simp only [exec]
  case encode => rcases execEncode_cases s with ⟨_, e⟩ | ⟨_, _, e⟩ | ⟨_, _, e⟩ <;> exact ⟨_, e⟩
  case decode => rcases execDecode_cases s with ⟨_, e⟩ | ⟨_, _, _, e⟩ | ⟨_, _, _, e⟩ <;> exact ⟨_, e⟩
  all_goals exact ⟨_, rfl⟩

/-- Every transaction answers a next state (R51: the block responds). -/
theorem transact_completes (x : HostTx) (s : State) : Completes (transact x s) := by
  cases x with
  | rd a =>
    simp only [transact, hostRead]
    split <;> exact ⟨_, rfl⟩
  | wr a v =>
    simp only [transact, hostWrite]
    split <;> try exact ⟨_, rfl⟩
    simp only [startOperation]
    split
    · exact exec_completes _ s
    · exact ⟨_, rfl⟩

/-- Everything a turn of an agent can do (R50): nothing, where the agent has no enabled step, or its step. -/
theorem turn_cases {a : Agent} {s t : State} (h : turn a s = .next t) :
    (a = .host ∧ (t = s ∨ ∃ x hs, s.acqp = false ∧ s.env.host = x :: hs ∧
      transact x { s with env := { host := hs, rx := s.env.rx, sched := s.env.sched } } = .next t)) ∨
    (a = .linkRx ∧ (t = s ∨ ∃ b bs, s.env.rx = b :: bs ∧ t = rxDeliver b { s with env := { host := s.env.host, rx := bs, sched := s.env.sched } })) ∨
    (a = .linkTx ∧ ((s.txv = false ∧ t = s) ∨ (s.txv = true ∧ txTake s = .next t))) ∨
    (a = .tick ∧ t = tick s) ∨
    (a = .reset ∧ t = resetStep s) := by
  cases a <;> simp only [turn] at h
  case host =>
    refine .inl ⟨rfl, ?_⟩
    unfold hostTurn at h
    split at h
    · exact .inl (by simpa using h.symm)
    · next hp =>
      split at h
      · exact .inl (by simpa using h.symm)
      · next x hs he => exact .inr ⟨x, hs, by simpa using hp, he, h⟩
  case linkRx =>
    refine .inr (.inl ⟨rfl, ?_⟩)
    unfold linkRxTurn at h
    split at h
    · exact .inl (by simpa using h.symm)
    · next b bs he => exact .inr ⟨b, bs, he, by simpa using h.symm⟩
  case linkTx =>
    refine .inr (.inr (.inl ⟨rfl, ?_⟩))
    unfold linkTxTurn at h
    split at h
    · next hv => exact .inr ⟨hv, h⟩
    · next hv => exact .inl ⟨by simpa using hv, by simpa using h.symm⟩
  case tick => exact .inr (.inr (.inr (.inl ⟨rfl, by simpa using h.symm⟩)))
  case reset => exact .inr (.inr (.inr (.inr ⟨rfl, by simpa using h.symm⟩)))

/-- A step is the scheduled agent's turn on the quiet state, or with nobody scheduled the quiet state itself. -/
theorem step_cases {s t : State} (h : step s = .next t) :
    (s.env.sched = [] ∧ t = quiet s) ∨
    ∃ a as, s.env.sched = a :: as ∧ turn a (quiet { s with env := { host := s.env.host, rx := s.env.rx, sched := as } }) = .next t := by
  unfold step nextStep at h
  split at h
  · next he => exact .inl ⟨he, by simpa using h.symm⟩
  · next a as he => exact .inr ⟨a, as, he, h⟩

end Sys2Proof.Laws
end

