-- ==== Sys2Proof/Laws/Protocol.lean ====
section
/-! SUPPORT. The pure functions of the codec, element by element: the low 7 bits as a residue, the sum, the padding, the
body of a frame. -/

namespace Sys2Proof.Laws
open Sys2Proof.Machine

/-- The low 7 bits are the residue mod 128 (R7, R8). -/
theorem low7_eq (b : Byte) : low7 b = b.toNat % 128 := by
  simp [low7, ckMask, BitVec.toNat_and]
  exact Nat.and_two_pow_sub_one_eq_mod b.toNat 7

/-- S of R90 as a sum of residues. -/
theorem sum7_eq (s : Vector Byte 10) : sum7 s = (s.toList.map fun b => b.toNat % 128).sum := by
  simp [sum7, List.map_congr_left (fun b _ => low7_eq b)]

/-- A vector of ten, element by element. -/
theorem toList_ten {α} (s : Vector α 10) :
    s.toList = [s[0], s[1], s[2], s[3], s[4], s[5], s[6], s[7], s[8], s[9]] := by
  apply List.ext_getElem
  · simp
  · intro i h1 h2
    simp at h1 h2
    interval_cases i <;> simp

/-- A vector of eleven, element by element. -/
theorem toList_eleven {α} (s : Vector α 11) :
    s.toList = [s[0], s[1], s[2], s[3], s[4], s[5], s[6], s[7], s[8], s[9], s[10]] := by
  apply List.ext_getElem
  · simp
  · intro i h1 h2
    simp at h1 h2
    interval_cases i <;> simp

/-- The checksum byte is the checksum, zero-extended (R60). -/
theorem ckByte_toNat (s : Vector Byte 10) : (ckByte s).toNat = (cksum7 s).toNat := by
  simp [ckByte]; have := (cksum7 s).isLt; omega

/-- The body of a frame is its bytes 0 to 9. -/
theorem bodyOf_get (f : Vector Byte 11) (i : Nat) (h : i < 10) : (bodyOf f)[i] = f[i] := by
  simp [bodyOf]

/-- Padding keeps the first n bytes and zero-fills (R92). -/
theorem pad7_get (p : Vector Byte 7) (n i : Nat) (h : i < 7) : (pad7 p n)[i] = if i < n then p[i] else 0#8 := by
  simp [pad7]

/-- The header and the device id of a body (R93). -/
theorem frameBody_lo (id p n) : (frameBody id p n)[0] = 0xFF#8 ∧ (frameBody id p n)[1] = 0xFF#8 ∧ (frameBody id p n)[2] = id := by
  simp [frameBody]

/-- The padded payload of a body (R93). -/
theorem frameBody_hi (id p n) (i : Nat) (h : i < 7) : (frameBody id p n)[3+i] = (pad7 p n)[i] := by
  interval_cases i <;> simp [frameBody]

/-- A built frame's bytes 0 to 9 are the body it was built from (R93). -/
theorem bodyOf_buildFrame (id p n) : bodyOf (buildFrame id p n) = frameBody id p n := by
  simp [bodyOf, buildFrame]

/-- A built frame's byte 10 is the checksum of its body (R93). -/
theorem buildFrame_ck (id p n) : (buildFrame id p n)[10] = ckByte (frameBody id p n) := by
  simp [buildFrame]

end Sys2Proof.Laws
end

