-- ==== Sys2Proof/Tests/Slice0.lean ====
section
/-! SUPPORT. The model's own tests. Expected values come from the spec's encoding tables (30_encoding.md) and its test
vectors (95_test_vectors.md), named in each comment; the second half shows, for each statement with hypotheses, a concrete
state and operands that meet them. -/

namespace Sys2Proof.Tests
open Sys2Proof.Machine

/-! ## Helpers -/

/-- Whether an outcome is a next state with the property `p`. -/
def goesTo (o : Host.Outcome State Fault Refusal) (p : State → Bool) : Bool :=
  match o with
  | .next t => p t
  | .fault _ => false
  | .refused _ => false

/-- A command staged after reset: device id, length, payload. -/
def staged (id n : Byte) (p : Vector Byte 7) : State := { State.reset with devid := id, plen := n, pay := p }

/-- A receive buffer of eleven bytes after reset. -/
def received (f : Vector Byte 11) : State := { State.reset with rxf := f, rxcnt := 11#4 }

/-- The frame of V-ENC-2. -/
def frameEnc2 : Vector Byte 11 := #v[0xFF#8, 0xFF#8, 0x01#8, 0x08#8, 0x43#8, 0x75#8, 0#8, 0#8, 0#8, 0#8, 0x41#8]

/-- The response of V-DEC-1. -/
def frameDec1 : Vector Byte 11 := #v[0xFF#8, 0xFF#8, 0x01#8, 0x03#8, 0#8, 0#8, 0#8, 0#8, 0#8, 0#8, 0x7E#8]

/-- The frame of V-ENC-2 on offer to LINK-TX, `i` bytes taken. -/
def offering (i : BitVec 4) : State := { State.reset with txf := frameEnc2, txidx := i, txv := true }

/-- A pending ACQUIRE of `l` with LIMCNT[l] = `c`. -/
def pending (l : Limiter) (c : BitVec 16) : State := { State.reset.setLimcnt l c with acqp := true, acql := l }

/-- The host about to issue `x`, and its turn next. -/
def issuing (x : HostTx) (s : State) : State := { s with env := { host := [x], rx := [], sched := [.host] } }

/-! ## Well-formedness: an ill-formed value for each check (R6) -/

theorem test_wf_tick_zero : Config.wellFormed { tickHz := 0, checkDevid := true } = false := by decide
theorem test_wf_tick_not_multiple_of_10 : Config.wellFormed { tickHz := 1005, checkDevid := true } = false := by decide
theorem test_wf_tick_too_large : Config.wellFormed { tickHz := 131080, checkDevid := true } = false := by decide
theorem test_wf_tick_largest : Config.wellFormed { tickHz := 131070, checkDevid := true } = true := by decide

/-! ## Decoding: each operation's word bit by bit from R75 and R79 -/

theorem test_decode_nop : decode 0b00000000#8 = .ok .nop := by rfl
theorem test_decode_encode : decode 0b00000001#8 = .ok .encode := by rfl
theorem test_decode_cksumT : decode 0b00000010#8 = .ok .cksumT := by rfl
theorem test_decode_cksumR : decode 0b00000011#8 = .ok .cksumR := by rfl
theorem test_decode_decode : decode 0b00000100#8 = .ok .decode := by rfl
theorem test_decode_rxclr : decode 0b00000101#8 = .ok .rxclr := by rfl
theorem test_decode_clrerr : decode 0b00000110#8 = .ok .clrerr := by rfl
theorem test_decode_acquireN : decode 0b00001000#8 = .ok .acquireN := by rfl
theorem test_decode_acquireF : decode 0b00001001#8 = .ok .acquireF := by rfl
theorem test_decode_srst : decode 0b00001111#8 = .ok .srst := by rfl
/-- V-FLT-10: ENCODE's low bits with bit 7 set. -/
theorem test_decode_high_bits : decode 0b10000001#8 = .error (.reservedWord 0x81#8) := by rfl
theorem test_decodeTableWord : decodeTableWord 8 0x0F = some .srst ∧ decodeTableWord 8 0x07 = none := by decide

/-! ## Codec (95_test_vectors.md 2.1 to 2.4) -/

/-- V-ENC-2, with stale staging bytes beyond PLEN. -/
theorem test_encode_running_example :
    goesTo (exec .encode (staged 1#8 3#8 #v[0x08#8, 0x43#8, 0x75#8, 0xAA#8, 0xBB#8, 0xCC#8, 0xDD#8]))
      (fun t => t.txf == frameEnc2 && t.txv && t.txidx == 0#4 && t.errc == 0#3) = true := by decide
/-- V-ENC-4: bit 7 of the payload is sent and not summed. -/
theorem test_encode_bit7 :
    goesTo (exec .encode (staged 99#8 7#8 (Vector.replicate 7 0xFF#8)))
      (fun t => t.txf[9] == 0xFF#8 && t.txf[10] == 0x26#8) = true := by decide
/-- V-CKS-3. -/
theorem test_cksumR_partial :
    goesTo (exec .cksumR { State.reset with rxf := frameDec1.set 10 0#8, rxcnt := 4#4 })
      (fun t => t.ckcalc == 0x7E#7 && t.port == .ok && !t.rxok) = true := by decide
/-- V-CKS-2. -/
theorem test_cksumT : goesTo (exec .cksumT (offering 0#4)) (fun t => t.ckcalc == 0x41#7 && t.txv) = true := by decide
/-- V-DEC-4. -/
theorem test_decode_masks_status :
    goesTo (exec .decode (received #v[0xFF#8, 0xFF#8, 1#8, 0xFB#8, 0x11#8, 0x22#8, 0x33#8, 0x44#8, 0x55#8, 0x66#8, 0x21#8]))
      (fun t => t.rstat == 3#3 && t.rxf[3] == 0xFB#8 && statusView t == 0x7C#8) = true := by decide
/-- V-DEC-12: all 8 bits of byte 10 are compared. -/
theorem test_decode_bit7_of_checksum :
    goesTo (exec .decode (received (frameDec1.set 10 0xFE#8)))
      (fun t => t.errc == 5#3 && t.ckcalc == 0x7E#7 && t.ckrecv == 0xFE#8 && errflgView t == 0x02#8) = true := by decide

/-! ## Streams and system operations (95_test_vectors.md 2.8) -/

/-- V-STR-11. -/
theorem test_nop : goesTo (exec .nop (offering 4#4)) (fun t => t == { offering 4#4 with port := .ok }) = true := by decide
/-- V-STR-6. -/
theorem test_rxclr :
    goesTo (exec .rxclr { received frameDec1 with rovr := true, rxok := true, rstat := 3#3, errc := 6#3, ckcalc := 0x7E#7 })
      (fun t => t.rxf == Vector.replicate 11 0#8 && t.rxcnt == 0#4 && !t.rovr && !t.rxok && t.rstat == 0#3
        && t.errc == 6#3 && t.ckcalc == 0x7E#7) = true := by decide
/-- V-STR-10. -/
theorem test_clrerr :
    goesTo (exec .clrerr { State.reset with errc := 5#3, eck := true, txovw := true, rovr := true })
      (fun t => t.errc == 0#3 && errflgView t == 0x00#8 && t.rovr) = true := by decide
/-- V-STR-12. -/
theorem test_srst_keeps_limiters :
    goesTo (exec .srst { offering 4#4 with devid := 2#8, plen := 1#8, errc := 2#3, eia := true, rxcnt := 5#4, limcntN := 251#16 })
      (fun t => t.limcntN == 251#16 && t.limcntF == 0#16 && !t.txv && t.devid == 0#8 && t.rxcnt == 0#4
        && statusView t == 0x40#8) = true := by decide
/-- V-STR-3: the twelfth byte is dropped. -/
theorem test_overrun :
    goesTo (turn .linkRx { received frameDec1 with env := { host := [], rx := [0x55#8], sched := [] } })
      (fun t => t.rxf == frameDec1 && t.rovr && t.rxcnt == 11#4 && t.errc == 0#3 && t.port == .silent) = true := by decide
/-- V-STR-4. -/
theorem test_rxpush :
    goesTo (transact (.wr 0x2C#6 0x03#8) { State.reset with rxcnt := 3#4 })
      (fun t => t.rxf[3] == 0x03#8 && t.rxcnt == 4#4 && t.port == .ok) = true := by decide
/-- V-STR-7: the eleventh take is the checksum and ends the frame. -/
theorem test_last_take :
    goesTo (turn .linkTx (offering 10#4)) (fun t => t.line == some 0x41#8 && t.txidx == 11#4 && !t.txv) = true := by decide
/-- V-STR-9: an ENCODE over a frame in flight. -/
theorem test_encode_over_frame :
    goesTo (exec .encode { offering 4#4 with devid := 2#8, plen := 1#8, pay := #v[0x7E#8, 0#8, 0#8, 0#8, 0#8, 0#8, 0#8] })
      (fun t => errflgView t == 0x08#8 && t.errc == 0#3 && t.txidx == 0#4 && t.txv && t.txf[10] == 0x02#8) = true := by decide

/-! ## Port and faults (95_test_vectors.md 2.9, 2.10) -/

/-- V-ACC-1. -/
theorem test_read_status : goesTo (transact (.rd 0x01#6) State.reset) (fun t => t.port == .okData 0x60#8) = true := by decide
/-- V-ACC-4: address 0x0E is PAY6. -/
theorem test_write_pay6 : goesTo (transact (.wr 0x0E#6 0xA5#8) State.reset) (fun t => t.pay[6] == 0xA5#8 && t.port == .ok) = true := by
  decide
/-- V-ACC-5. -/
theorem test_read_cmd :
    goesTo (transact (.rd 0x00#6) State.reset) (fun t => t.port == .errData 0x00#8 && t.errc == 4#3 && t.eia) = true := by decide
/-- V-ACC-8. -/
theorem test_write_txf0 :
    goesTo (transact (.wr 0x10#6 0xAA#8) State.reset) (fun t => t.port == .err && t.errc == 4#3 && t.txf[0] == 0#8) = true := by
  decide
/-- V-FLT-3: the length is checked before the id. -/
theorem test_fault_length_first : goesTo (exec .encode (staged 0#8 9#8 (Vector.replicate 7 0#8))) (fun t => t.errc == 1#3) = true := by
  decide
/-- V-FLT-5. -/
theorem test_fault_id_100 :
    goesTo (exec .encode (staged 100#8 7#8 (Vector.replicate 7 0#8))) (fun t => t.errc == 2#3 && !t.txv) = true := by decide
/-- V-FLT-14: CHECK_DEVID = false. -/
theorem test_id_unchecked :
    goesTo (exec .encode { State.reset with cfg := { tickHz := 1000, checkDevid := false } })
      (fun t => t.port == .ok && t.txf[2] == 0x00#8 && t.txf[10] == 0x02#8) = true := by decide
/-- V-FLT-11: the last cause wins, the class bits accumulate. -/
theorem test_fault_accumulates :
    goesTo (transact (.wr 0x00#6 0x07#8) { State.reset with errc := 5#3, eck := true })
      (fun t => t.errc == 3#3 && errflgView t == 0x03#8 && !t.acqp) = true := by decide
/-- V-FLT-12: cause 6 before cause 5. -/
theorem test_fault_malformed_first :
    goesTo (exec .decode { received (frameDec1.set 10 0#8) with rovr := true })
      (fun t => t.errc == 6#3 && t.ckcalc == 0#7 && errflgView t == 0x04#8) = true := by decide

/-! ## Limiters (95_test_vectors.md 2.7) and the step -/

/-- V-LIM-1: with the token there, the grant comes at the next tick and reloads the counter with 500. -/
theorem test_grant_normal :
    goesTo (turn .tick (pending .normal 0#16)) (fun t => !t.acqp && t.limcntN == 500#16 && t.limcntF == 0#16 && t.port == .ok) = true := by
  decide
/-- V-LIM-2: 100 for FAST, granted at the tick that brings the counter to 0. -/
theorem test_grant_fast : goesTo (turn .tick (pending .fast 1#16)) (fun t => !t.acqp && t.limcntF == 100#16) = true := by decide
/-- R116: with two ticks to go there is no grant yet. -/
theorem test_no_grant : goesTo (turn .tick (pending .normal 2#16)) (fun t => t.acqp && t.limcntN == 1#16 && t.port == .silent) = true := by
  decide
/-- R111: an ACQUIRE holds the port. -/
theorem test_acquire_holds :
    goesTo (step (State.reset.withFetchWord 8 0x08)) (fun t => t.acqp && t.acql == .normal && t.port == .hold) = true := by decide
theorem test_acquireF_holds :
    goesTo (step (State.reset.withFetchWord 8 0x09)) (fun t => t.acqp && t.acql == .fast && t.port == .hold) = true := by decide
/-- V-FLT-7, run by the step as the first operation after reset. -/
theorem test_step_encode_after_reset :
    goesTo (step (State.reset.withFetchWord 8 0x01)) (fun t => t.errc == 2#3 && t.port == .err) = true := by decide
/-- V-LIM-12: reset zeroes the counters and abandons the hold. -/
theorem test_reset : goesTo (turn .reset (pending .normal 300#16)) (fun t => t == State.reset) = true := by decide

/-! ## Witnesses: concrete states that meet the hypotheses of each statement, clause by clause

Named after the statement. A witness of a statement about `turn a s = .next t` names the t by evaluation (`rfl`). -/

/-- The validated response of V-DEC-1. -/
def validated : State := { received frameDec1 with rxok := true, rstat := 3#3, ckcalc := 0x7E#7, ckrecv := 0x7E#8 }

/-- The same after a twelfth byte (V-DEC-24), with a TICK next. -/
def overrun : State := { validated with rovr := true, env := { host := [], rx := [], sched := [.tick] } }

theorem reset_invariants : Invariants State.reset where
  params := by decide
  txidxLegal := by decide
  rxcntLegal := by decide
  txidxOnOffer := by decide
  txidxIdle := by decide
  errcLegal := by decide
  limcntNBound := by decide
  limcntFBound := by decide
  validated := by decide
  overrunFull := by decide
  unreceivedZero := by decide
  transmitFrame := .inr (by decide)
  offerIsFrame := fun h => absurd h (by decide)

theorem overrun_invariants : Invariants overrun where
  params := by decide
  txidxLegal := by decide
  rxcntLegal := by decide
  txidxOnOffer := by decide
  txidxIdle := by decide
  errcLegal := by decide
  limcntNBound := by decide
  limcntFBound := by decide
  validated := by decide
  overrunFull := by decide
  unreceivedZero := by decide
  transmitFrame := .inr (by decide)
  offerIsFrame := fun h => absurd h (by decide)

/-- The invariants allow a frame on offer, here with its last byte still to be taken. -/
theorem offering_invariants : Invariants (offering 10#4) where
  params := by decide
  txidxLegal := by decide
  rxcntLegal := by decide
  txidxOnOffer := by decide
  txidxIdle := by decide
  errcLegal := by decide
  limcntNBound := by decide
  limcntFBound := by decide
  validated := by decide
  overrunFull := by decide
  unreceivedZero := by decide
  transmitFrame := .inl ⟨by decide, by decide, by decide, by decide⟩
  offerIsFrame := fun _ => ⟨by decide, by decide, by decide, by decide⟩

/-- OperationMapCoversEveryWord, ReservedWordFaultsAndStartsNothing, FaultPriority: each range at its ends. -/
theorem wit_reserved_words :
    ([0x07#8, 0x0A#8, 0x0E#8, 0x10#8, 0xFF#8] : List Byte).all (fun w =>
      decide (w.toNat = 0x07 ∨ (0x0A ≤ w.toNat ∧ w.toNat ≤ 0x0E) ∨ 0x10 ≤ w.toNat)
        && (match decode w with | .error e => e == .reservedWord w | .ok _ => false)) = true := by decide

theorem wit_DecodeEncodeAgree : Instr.srst.wellFormed = true ∧ decode 0x0F#8 = .ok .srst := ⟨rfl, rfl⟩

/-- StepRunsDecodedOperation, StepIsScheduledTurn, HeldPortStartsNoTransaction (second clause). -/
theorem wit_StepRunsDecodedOperation :
    let s := issuing (.wr 0x00#6 0x0F#8) State.reset
    s.acqp = false ∧ s.env.host = .wr 0x00#6 0x0F#8 :: [] ∧ s.env.sched = .host :: [] ∧ decode 0x0F#8 = .ok .srst :=
  ⟨rfl, rfl, rfl, rfl⟩

theorem wit_StepIsScheduledTurn_idle : State.reset.env.sched = [] := rfl

/-- HeldPortStartsNoTransaction (first clause), OnlyGrantOrResetEndsHold: by the grant and by reset. -/
theorem wit_OnlyGrantOrResetEndsHold :
    (pending .fast 1#16).acqp = true ∧
    (∃ t, turn .tick (pending .fast 1#16) = .next t ∧ t.acqp = false) ∧
    ∃ t, turn .reset (pending .fast 1#16) = .next t ∧ t.acqp = false :=
  ⟨rfl, ⟨_, rfl, by decide⟩, ⟨_, rfl, by decide⟩⟩

/-- PaddingKeepsThenZeroFills, ChecksumEquivalentForms (last clause): no payload byte, and all seven. -/
theorem wit_PaddingKeepsThenZeroFills : (0 ≤ 7 ∧ (6 < 7 ∧ 0 ≤ 6)) ∧ 7 ≤ 7 ∧ 6 < 7 := by decide

/-- EncodeThenDecodeRoundTrip (first clause): ids 1 and 99, lengths 0 and 7. -/
theorem wit_EncodeThenDecodeRoundTrip_frames :
    (1 ≤ (1#8).toNat ∧ (1#8).toNat ≤ 99 ∧ 0 ≤ 7) ∧ 1 ≤ (99#8).toNat ∧ (99#8).toNat ≤ 99 ∧ 7 ≤ 7 := by decide

theorem wit_EncodeThenDecodeRoundTrip :
    let s := staged 99#8 7#8 (Vector.replicate 7 0xFF#8)
    1 ≤ s.devid.toNat ∧ s.devid.toNat ≤ 99 ∧ s.plen.toNat ≤ 7 ∧ s.rxcnt = 0#4 ∧ s.rovr = false := by decide

theorem wit_EncodeLoadsFrame :
    let s := staged 99#8 7#8 (Vector.replicate 7 0xFF#8)
    s.plen.toNat ≤ 7 ∧ (s.cfg.checkDevid = true → 1 ≤ s.devid.toNat ∧ s.devid.toNat ≤ 99) := by decide

/-- EncodeLoadsFrame with the check off (R6). -/
theorem wit_EncodeLoadsFrame_unchecked :
    let s := { State.reset with cfg := { tickHz := 10, checkDevid := false } }
    s.plen.toNat ≤ 7 ∧ (s.cfg.checkDevid = true → 1 ≤ s.devid.toNat ∧ s.devid.toNat ≤ 99) := by decide

/-- SingleByteChangeDetection: V-DEC-1 with byte 3 changed in its low bits, byte 10 changed, byte 0 changed in bit 7. -/
theorem wit_SingleByteChangeDetection :
    frameOk frameDec1 = true ∧ (0x05#8 ≠ frameDec1[3] ∧ (frameDec1[3] ^^^ 0x05#8) &&& 0x7F#8 ≠ 0#8) ∧
    0x7F#8 ≠ frameDec1[10] ∧ 0x7F#8 ≠ frameDec1[0] ∧ 0x7F#8 = frameDec1[0] ^^^ 0x80#8 := by decide

/-- EncodeLengthFault and the length clause of FaultPriority: lengths 8 and 255; and a fault with cause 1. -/
theorem wit_EncodeLengthFault :
    7 < (8#8).toNat ∧ 7 < (255#8).toNat ∧
    ∃ t, exec .encode (staged 1#8 8#8 (Vector.replicate 7 0#8)) = .next t ∧ t.port = .err ∧ t.errc = 1#3 := by
  refine ⟨by decide, by decide, _, rfl, by decide⟩

/-- EncodeDeviceIdFault and the id clause of FaultPriority: ids 0, 100 and 255; and a fault with cause 2. -/
theorem wit_EncodeDeviceIdFault :
    ((0#8).toNat = 0 ∧ 100 ≤ (100#8).toNat ∧ 99 < (255#8).toNat) ∧
    (let s := staged 0#8 7#8 (Vector.replicate 7 0#8); s.plen.toNat ≤ 7 ∧ s.cfg.checkDevid = true) ∧
    ∃ t, exec .encode (staged 0#8 7#8 (Vector.replicate 7 0#8)) = .next t ∧ t.port = .err ∧ t.errc = 2#3 := by
  refine ⟨by decide, by decide, _, rfl, by decide⟩

/-- EncodeIgnoresLimiters. -/
theorem wit_EncodeIgnoresLimiters : ∃ t, exec .encode (staged 1#8 0#8 (Vector.replicate 7 0#8)) = .next t := ⟨_, rfl⟩

/-- DecodeAcceptsGoodFrame, DecodeChecksNothingElse. -/
theorem wit_DecodeAcceptsGoodFrame :
    let s := received frameDec1
    s.rxcnt = 11#4 ∧ s.rovr = false ∧ (cksum7 s.rxf.pop).zeroExtend 8 = s.rxf[10] ∧ ∃ t, exec .decode s = .next t := by
  refine ⟨by decide, by decide, by decide, _, rfl⟩

/-- DecodeMalformedFault and FaultPriority: ten bytes, and eleven with an overrun; and a fault with cause 6. -/
theorem wit_DecodeMalformedFault :
    ({ received frameDec1 with rxcnt := 10#4 }).rxcnt ≠ 11#4 ∧ overrun.rovr = true ∧
    ∃ t, exec .decode overrun = .next t ∧ t.port = .err ∧ t.errc = 6#3 := by
  refine ⟨by decide, by decide, _, rfl, by decide⟩

/-- DecodeChecksumFault and FaultPriority: V-DEC-11; and a fault with cause 5. -/
theorem wit_DecodeChecksumFault :
    let s := received (frameDec1.set 10 0x7F#8)
    s.rxcnt = 11#4 ∧ s.rovr = false ∧ (cksum7 s.rxf.pop).zeroExtend 8 ≠ s.rxf[10] ∧ frameOk s.rxf = false ∧
    ∃ t, exec .decode s = .next t ∧ t.port = .err ∧ t.errc = 5#3 := by
  refine ⟨by decide, by decide, by decide, by decide, _, rfl, by decide⟩

/-- DeliveryStoresOrOverruns: the last free place, and a full buffer. -/
theorem wit_DeliveryStoresOrOverruns :
    let e : Env := { host := [], rx := [0x7E#8], sched := [] }
    e.rx = 0x7E#8 :: [] ∧ ({ State.reset with rxcnt := 10#4, env := e }).rxcnt.toNat < 11 ∧
    ¬ ({ received frameDec1 with env := e }).rxcnt.toNat < 11 := by decide

/-- OverrunIsSticky. -/
theorem wit_OverrunIsSticky : Invariants overrun ∧ overrun.rovr = true ∧ ∃ t, turn .tick overrun = .next t :=
  ⟨overrun_invariants, rfl, _, rfl⟩

/-- TakeReturnsNextFrameByte: not on offer; the first byte; the last. -/
theorem wit_TakeReturnsNextFrameByte :
    State.reset.txv = false ∧ (offering 0#4).txv = true ∧ (offering 0#4).txidx.toNat < 11 ∧
    (offering 10#4).txv = true ∧ (offering 10#4).txidx.toNat < 11 := by decide

/-- FrameLeavesInIndexOrder: the host polls STATUS on its first turn, then LINK-TX has eleven turns; an ENCODE that the
host would issue on a second turn stays in the queue. -/
theorem wit_FrameLeavesInIndexOrder :
    let as := .host :: List.replicate 11 Agent.linkTx
    let s := { offering 0#4 with env := { host := [.rd 0x01#6, .wr 0x00#6 0x01#8], rx := [], sched := [] } }
    s.txv = true ∧ s.txidx = 0#4 ∧
    (∀ x ∈ s.env.host.take (as.count .host), x ≠ .wr 0x00#6 0x01#8 ∧ x ≠ .wr 0x00#6 0x0F#8) ∧
    .reset ∉ as ∧ 11 ≤ as.count .linkTx ∧ ∃ t, runTurns as s = .next t := by
  refine ⟨by decide, by decide, by decide, by decide, by decide, _, rfl⟩

/-- TxfWrittenOnlyByEncodeSrstReset: an ENCODE on the host's turn. -/
theorem wit_TxfWrittenOnlyByEncodeSrstReset :
    ∃ t, turn .host (issuing (.wr 0x00#6 0x01#8) (staged 1#8 0#8 (Vector.replicate 7 0#8))) = .next t ∧
      t.txf ≠ (issuing (.wr 0x00#6 0x01#8) (staged 1#8 0#8 (Vector.replicate 7 0#8))).txf :=
  ⟨_, rfl, by decide⟩

/-- ReadGivesRegister: the last index of each bank, and a read that succeeds. -/
theorem wit_ReadGivesRegister : 6 < 7 ∧ 10 < 11 ∧ readAddr State.reset 0x0E#6 = some 0x00#8 := by decide

/-- AccessViolationFaults: the ends of each range; no address of a range is one the other clauses cover. -/
theorem wit_AccessViolationFaults :
    ([0x00#6, 0x2C#6, 0x1C#6, 0x1F#6, 0x2D#6, 0x3F#6] : List Addr).all (fun a =>
      (readAddr State.reset a).isNone) = true ∧
    ([0x01#6, 0x03#6, 0x06#6, 0x07#6, 0x0F#6, 0x1F#6, 0x20#6, 0x2B#6, 0x2D#6, 0x3F#6] : List Addr).all (fun a =>
      (locOf a).access == .ro || (locOf a).access == .none) = true := by decide

/-- RegisterAccessIsIdempotent: a read and a write. -/
theorem wit_RegisterAccessIsIdempotent :
    readAddr State.reset 0x01#6 = some 0x60#8 ∧ (∃ t, transact (.rd 0x01#6) State.reset = .next t) ∧
    (locOf 0x0E#6).access = .rw ∧ ∃ t, transact (.wr 0x0E#6 0xA5#8) State.reset = .next t :=
  ⟨by decide, ⟨_, rfl⟩, by decide, ⟨_, rfl⟩⟩

/-- FaultsArePrecise: a write and a read that fault. -/
theorem wit_FaultsArePrecise :
    (∃ t, transact (.wr 0x01#6 0#8) State.reset = .next t ∧ t.port = .err) ∧
    ∃ t, transact (.rd 0x3F#6) State.reset = .next t ∧ t.port = .errData 0x00#8 :=
  ⟨⟨_, rfl, by decide⟩, ⟨_, rfl, by decide⟩⟩

/-- RecordPersistsOverSuccess: a NOP with a record standing. -/
theorem wit_RecordPersistsOverSuccess :
    ∃ t, transact (.wr 0x00#6 0x00#8) { State.reset with errc := 4#3, eia := true } = .next t ∧ t.port ≠ .err ∧
      t.port ≠ .errData 0x00#8 ∧ HostTx.wr 0x00#6 0x00#8 ≠ .wr 0x00#6 0x06#8 ∧
      HostTx.wr 0x00#6 0x00#8 ≠ .wr 0x00#6 0x0F#8 ∧ HostTx.wr 0x00#6 0x00#8 ≠ .wr 0x00#6 0x01#8 :=
  ⟨_, rfl, by decide⟩

/-- FaultPriority: one address of each access class. -/
theorem wit_FaultPriority :
    (locOf 0x01#6).access = .ro ∧ (locOf 0x1C#6).access = .none ∧ (locOf 0x2C#6).access = .wo ∧
    decode 0x07#8 = .error (.reservedWord 0x07#8) := ⟨by decide, by decide, by decide, rfl⟩

/-- FaultLeavesPortFree. -/
theorem wit_FaultLeavesPortFree :
    let s := issuing (.rd 0x01#6) State.reset
    s.acqp = false ∧ s.env.host = .rd 0x01#6 :: [] ∧ ∃ t, transact (.wr 0x00#6 0x07#8) s = .next t ∧ t.port = .err :=
  ⟨rfl, rfl, _, rfl, by decide⟩

/-- IntervalsFollowRates: the largest TICK_HZ that R6 allows. -/
theorem wit_IntervalsFollowRates : Config.wellFormed { tickHz := 131070, checkDevid := true } = true := by decide

/-- AcquireGrantedWithinBound, LIMCNT = 2: one tick that does not grant, then the one that does. -/
theorem wit_AcquireGrantedWithinBound :
    let s := startAcquire .fast { State.reset with limcntF := 2#16 }
    (.reset ∉ [Agent.tick] ∧ [Agent.tick].count .tick < max (2#16).toNat 1 ∧ ∃ t, runTurns [.tick] s = .next t) ∧
    ([Agent.tick].count .tick + 1 = max (2#16).toNat 1 ∧ ∃ t, runTurns ([.tick] ++ [.tick]) s = .next t) ∧
    Invariants State.reset :=
  ⟨⟨by decide, by decide, _, rfl⟩, ⟨by decide, _, rfl⟩, reset_invariants⟩

/-- GrantSpacing at TICK_HZ = 10 (INTERVAL[1] = 1): two grants of FAST, an ACQUIRE between them. -/
theorem wit_GrantSpacing :
    let s := { issuing (.wr 0x00#6 0x09#8) (pending .fast 0#16) with cfg := { tickHz := 10, checkDevid := true } }
    s.cfg.wellFormed = true ∧ grants .fast s = true ∧ .reset ∉ [Agent.host] ∧ [Agent.host].count .tick + 1 = interval s.cfg .fast ∧
    ∃ s1, turn .tick s = .next s1 ∧ ∃ s2, runTurns [.host] s1 = .next s2 ∧ grants .fast s2 = true ∧ s2.acqp = true ∧
      s2.acql = .fast :=
  ⟨by decide, by decide, by decide, by decide, _, rfl, _, rfl, by decide⟩

/-- WindowLaw and ManyGrantsTakeTheirIntervals: a run with a grant in it. -/
theorem wit_WindowLaw :
    let s := pending .normal 1#16
    s.cfg.wellFormed = true ∧ .reset ∉ [Agent.tick] ∧ [Agent.tick].count .tick ≤ s.cfg.tickHz ∧
    1 ≤ grantCount .normal [.tick] s := by decide

/-- LimitersAreIndependent. -/
theorem wit_LimitersAreIndependent :
    Limiter.normal ≠ .fast ∧ (pending .normal 1#16).acql = .normal ∧ ∃ t, turn .tick (pending .normal 1#16) = .next t :=
  ⟨by decide, rfl, _, rfl⟩

/-- LimiterCountersWrittenOnlyByTick, HostRegistersChangedOnlyByHost: a take, by an agent that is neither TICK nor host. -/
theorem wit_HostRegistersChangedOnlyByHost :
    Agent.linkTx ≠ .host ∧ Agent.linkTx ≠ .tick ∧ Agent.linkTx ≠ .reset ∧ ∃ t, turn .linkTx (offering 0#4) = .next t :=
  ⟨by decide, by decide, by decide, _, rfl⟩

/-- IdleAcqlIsUnobservable: an ACQUIRE on a free port, so that the premise ACQP = 1 of its last clause holds too. -/
theorem wit_IdleAcqlIsUnobservable :
    let s := issuing (.wr 0x00#6 0x09#8) State.reset
    s.acqp = false ∧ ∃ t, turn .host s = .next t ∧ t.acqp = true := ⟨rfl, _, rfl, by decide⟩

/-- ValidatedResponseIsStable. -/
theorem wit_ValidatedResponseIsStable :
    Invariants overrun ∧ overrun.rxok = true ∧ ∃ t, step overrun = .next t ∧ t.rxok = true :=
  ⟨overrun_invariants, rfl, _, rfl, by decide⟩

/-- EveryStepKeepsInvariants, RunsNeverStop, InvariantsHoldAtReset: a frame on offer, and a step that runs. -/
theorem wit_EveryStepKeepsInvariants :
    Invariants (offering 10#4) ∧ Invariants overrun ∧ ∃ t, step overrun = .next t :=
  ⟨offering_invariants, overrun_invariants, _, rfl⟩

end Sys2Proof.Tests
end

section
/-!
The limiters' intervals and their rates (R6, R113): RATE[l] divides TICK_HZ, so that INTERVAL[l] is exact.
-/
namespace Sys2Proof.Proofs
open Sys2Proof.Machine

theorem Config.wellFormed_iff {c : Config} :
    c.wellFormed = true ↔ 0 < c.tickHz ∧ 10 ∣ c.tickHz ∧ c.tickHz ≤ 131070 := by
  simp [Config.wellFormed, Nat.dvd_iff_mod_eq_zero, and_assoc]

theorem rate_dvd_ten (l : Limiter) : rate l ∣ 10 := by
  cases l <;> decide

/-- R113: the division of TICK_HZ by RATE[l] leaves no remainder, because R6 makes TICK_HZ a multiple of 10. -/
theorem rate_mul_interval {c : Config} (h : c.wellFormed = true) (l : Limiter) : rate l * interval c l = c.tickHz := by
  obtain ⟨-, hten, -⟩ := Config.wellFormed_iff.1 h
  exact Nat.mul_div_cancel' ((rate_dvd_ten l).trans hten)

/-- Settles O42: each interval times its rate is TICK_HZ, and R6's bound makes both fit LIMCNT. -/
theorem intervalsFollowRates : Obligations.IntervalsFollowRates :=
  ⟨fun _ h => ⟨rate_mul_interval h .normal, rate_mul_interval h .fast,
    (Laws.intervalWord_toNat h .normal).1, (Laws.intervalWord_toNat h .fast).1⟩, rfl, rfl⟩

end Sys2Proof.Proofs
end

section
/-!
The invariants of R35 taken apart by the registers they speak of: transmit side, receive side, limiters, error record.
Each part is a predicate on register values, so an update of other registers keeps it as it stands.
-/
namespace Sys2Proof.Proofs
open Sys2Proof.Machine

/-! ## The parts -/

/-- R35 (j): what `HoldsFrame` says, of the parameters and the value of TXF. -/
def IsCommandFrame (c : Config) (f : Vector Byte 11) : Prop :=
  f[0] = 0xFF#8 ∧ f[1] = 0xFF#8 ∧ (c.checkDevid = true → 1 ≤ f[2].toNat ∧ f[2].toNat ≤ 99) ∧ frameOk f = true

/-- R35 (a), (b), (j) and R17 of the values of TXF, TXIDX and TXV. -/
structure TransmitLegal (c : Config) (txf : Vector Byte 11) (txidx : BitVec 4) (txv : Bool) : Prop where
  index : txidx.toNat ≤ 11
  onOffer : txv = true → txidx.toNat ≤ 10
  idle : txv = false → txidx = 0#4 ∨ txidx = 11#4
  frame : IsCommandFrame c txf ∨ txf = Vector.replicate 11 0x00#8
  offer : txv = true → IsCommandFrame c txf

/-- R35 (a), (f), (g), (h) of the values of RXF, RXCNT, ROVR, RXOK, RSTAT and CKRECV. -/
structure ReceiveLegal (rxf : Vector Byte 11) (rxcnt : BitVec 4) (rovr rxok : Bool) (rstat : BitVec 3) (ckrecv : Byte) :
    Prop where
  count : rxcnt.toNat ≤ 11
  validated : rxok = true → rxcnt = 11#4 ∧ frameOk rxf = true ∧ rstat = statusOf rxf ∧ ckrecv = rxf[10]
  overrunFull : rovr = true → rxcnt = 11#4
  unreceivedZero : ∀ i : Fin 11, rxcnt.toNat ≤ i.val → rxf[i] = 0x00#8

/-- R35 (e) of the values of the two counters. -/
def LimitersLegal (c : Config) (n f : BitVec 16) : Prop :=
  n.toNat ≤ interval c .normal ∧ f.toNat ≤ interval c .fast

theorem holdsFrame_iff (s : State) : HoldsFrame s ↔ IsCommandFrame s.cfg s.txf :=
  ⟨fun h => ⟨h.header0, h.header1, h.deviceId, h.checksum⟩, fun ⟨h0, h1, hd, hc⟩ => ⟨h0, h1, hd, hc⟩⟩

/-- The invariants are their parts. -/
theorem invariants_iff (s : State) :
    Invariants s ↔ s.cfg.wellFormed = true ∧ TransmitLegal s.cfg s.txf s.txidx s.txv ∧
      ReceiveLegal s.rxf s.rxcnt s.rovr s.rxok s.rstat s.ckrecv ∧ LimitersLegal s.cfg s.limcntN s.limcntF ∧
      s.errc.toNat ≤ 6 := by
  constructor
  · intro h
    have hframe := holdsFrame_iff s
    exact ⟨h.params,
      ⟨h.txidxLegal, h.txidxOnOffer, h.txidxIdle, h.transmitFrame.imp_left hframe.1, fun hv => hframe.1 (h.offerIsFrame hv)⟩,
      ⟨h.rxcntLegal, h.validated, h.overrunFull, h.unreceivedZero⟩, ⟨h.limcntNBound, h.limcntFBound⟩, h.errcLegal⟩
  · rintro ⟨hc, tx, rx, ⟨hn, hf⟩, he⟩
    have hframe := holdsFrame_iff s
    exact {
      params := hc, txidxLegal := tx.index, rxcntLegal := rx.count, txidxOnOffer := tx.onOffer, txidxIdle := tx.idle
      errcLegal := he, limcntNBound := hn, limcntFBound := hf, validated := rx.validated, overrunFull := rx.overrunFull
      unreceivedZero := rx.unreceivedZero, transmitFrame := tx.frame.imp_left hframe.2
      offerIsFrame := fun hv => hframe.2 (tx.offer hv) }

/-! ## The transmit side -/

theorem transmitLegal_empty (c : Config) : TransmitLegal c (Vector.replicate 11 0x00#8) 0#4 false where
  index := by decide
  onOffer := by simp
  idle := by simp
  frame := .inr rfl
  offer := by simp

theorem transmitLegal_load {c : Config} {f : Vector Byte 11} (h : IsCommandFrame c f) : TransmitLegal c f 0#4 true where
  index := by decide
  onOffer := by simp
  idle := by simp
  frame := .inl h
  offer := fun _ => h

/-- R136: a take moves TXIDX on to at most 11, and TXV falls exactly when it gets there. -/
theorem transmitLegal_take {c : Config} {f : Vector Byte 11} {i : BitVec 4} (h : TransmitLegal c f i true) :
    TransmitLegal c f (i + 1#4) (i != 10#4) := by
  have hi : i.toNat ≤ 10 := h.onOffer rfl
  have hsucc : (i + 1#4).toNat = i.toNat + 1 := by simp [BitVec.toNat_add]; omega
  refine ⟨by omega, fun hv => ?_, fun hv => ?_, h.frame, fun _ => h.offer rfl⟩
  · have hne : i.toNat ≠ 10 := fun e => by simp [BitVec.eq_of_toNat_eq (y := 10#4) e] at hv
    omega
  · have he : i = 10#4 := by simpa using hv
    simp [he]

theorem frameOk_buildFrame (id : Byte) (p : Vector Byte 7) (n : Nat) : frameOk (buildFrame id p n) = true := by
  simp [frameOk, Laws.bodyOf_buildFrame, Laws.buildFrame_ck]

theorem buildFrame_header (id : Byte) (p : Vector Byte 7) (n : Nat) :
    (buildFrame id p n)[0] = 0xFF#8 ∧ (buildFrame id p n)[1] = 0xFF#8 ∧ (buildFrame id p n)[2] = id := by
  simp [← Laws.bodyOf_get, Laws.bodyOf_buildFrame, Laws.frameBody_lo]

/-- R95, R97: the frame that ENCODE loads, once the device id has passed the check. -/
theorem isCommandFrame_stagedFrame {s : State} (h : devidRefused s = false) : IsCommandFrame s.cfg (stagedFrame s) := by
  obtain ⟨h0, h1, h2⟩ := buildFrame_header s.devid s.pay s.plen.toNat
  refine ⟨h0, h1, fun hc => ?_, frameOk_buildFrame ..⟩
  have hid : ¬ (s.devid.toNat = 0 ∨ 100 ≤ s.devid.toNat) := fun hid => by
    simp [(Laws.devidRefused_iff s).2 ⟨hc, hid⟩] at h
  simp only [stagedFrame, h2]
  omega

/-! ## The receive side -/

section Receive
variable {rxf : Vector Byte 11} {rxcnt : BitVec 4} {rovr rxok : Bool} {rstat : BitVec 3} {ckrecv : Byte}

theorem receiveLegal_empty (rstat : BitVec 3) (ckrecv : Byte) :
    ReceiveLegal (Vector.replicate 11 0x00#8) 0#4 false false rstat ckrecv where
  count := by decide
  validated := by simp
  overrunFull := by simp
  unreceivedZero := by simp

theorem receiveLegal_invalidate (h : ReceiveLegal rxf rxcnt rovr rxok rstat ckrecv) (rstat' : BitVec 3) (ckrecv' : Byte) :
    ReceiveLegal rxf rxcnt rovr false rstat' ckrecv' where
  count := h.count
  validated := by simp
  overrunFull := h.overrunFull
  unreceivedZero := h.unreceivedZero

theorem receiveLegal_validate (h : ReceiveLegal rxf rxcnt rovr rxok rstat ckrecv) (hc : rxcnt = 11#4)
    (hf : frameOk rxf = true) : ReceiveLegal rxf rxcnt rovr true (statusOf rxf) rxf[10] where
  count := h.count
  validated := fun _ => ⟨hc, hf, rfl, rfl⟩
  overrunFull := h.overrunFull
  unreceivedZero := h.unreceivedZero

/-- R135: a byte dropped at a full buffer sets ROVR. -/
theorem receiveLegal_overrun (h : ReceiveLegal rxf rxcnt rovr rxok rstat ckrecv) (hfull : ¬ rxcnt.toNat < 11) :
    ReceiveLegal rxf rxcnt true rxok rstat ckrecv where
  count := h.count
  validated := h.validated
  overrunFull := fun _ => BitVec.eq_of_toNat_eq (Nat.le_antisymm h.count (Nat.not_lt.1 hfull))
  unreceivedZero := h.unreceivedZero

/-- R134: while there is room RXOK and ROVR are 0, and a byte stored at RXF[RXCNT] leaves the bytes above it 0. -/
theorem receiveLegal_store (h : ReceiveLegal rxf rxcnt rovr rxok rstat ckrecv) (hroom : rxcnt.toNat < 11) (b : Byte) :
    ReceiveLegal (rxf.set rxcnt.toNat b hroom) (rxcnt + 1#4) rovr rxok rstat ckrecv := by
  have hsucc : (rxcnt + 1#4).toNat = rxcnt.toNat + 1 := by simp [BitVec.toNat_add]; omega
  have hne : rxcnt ≠ 11#4 := by rintro rfl; simp at hroom
  refine ⟨by omega, fun hv => absurd (h.validated hv).1 hne, fun ho => absurd (h.overrunFull ho) hne, fun i hi => ?_⟩
  have hz : rxf[i] = 0x00#8 := h.unreceivedZero i (by omega)
  simpa [Vector.getElem_set, show rxcnt.toNat ≠ i.val by omega] using hz

end Receive

/-! ## The limiters -/

theorem limitersLegal_zero (c : Config) : LimitersLegal c 0#16 0#16 := by simp [LimitersLegal]

theorem limitersLegal_countDown {c : Config} {n f : BitVec 16} (h : LimitersLegal c n f) :
    LimitersLegal c (countDown n) (countDown f) := by
  simp only [LimitersLegal, Laws.countDown_toNat] at *
  omega

/-- R115: the granted counter is reloaded with INTERVAL[l], which R6 makes fit. -/
theorem limitersLegal_setLimcnt {s : State} (hc : s.cfg.wellFormed = true) (h : LimitersLegal s.cfg s.limcntN s.limcntF)
    (l : Limiter) :
    LimitersLegal s.cfg (s.setLimcnt l (intervalWord s.cfg l)).limcntN (s.setLimcnt l (intervalWord s.cfg l)).limcntF := by
  obtain ⟨hn, hf⟩ := h
  cases l
  · exact ⟨(Laws.intervalWord_toNat hc .normal).1.le, hf⟩
  · exact ⟨hn, (Laws.intervalWord_toNat hc .fast).1.le⟩

/-! ## The error record -/

theorem causeCode_le (c : Cause) : (causeCode c).toNat ≤ 6 := by
  cases c <;> decide

end Sys2Proof.Proofs
end

section
/-!
R35: every operation, transaction, turn and step keeps the invariants, and from a state that meets them every turn
completes.
-/
namespace Sys2Proof.Proofs
open Sys2Proof.Machine

/-! ## The shared operations -/

section Shared
variable {s : State} (h : Invariants s)
include h

theorem invariants_respond (p : PortOut) : Invariants (respond p s) := by
  simpa [invariants_iff] using h

theorem invariants_quiet : Invariants (quiet s) := by
  simpa [invariants_iff] using h

theorem invariants_env (e : Env) : Invariants { s with env := e } := by
  simpa [invariants_iff] using h

theorem invariants_record (c : Cause) : Invariants (record c s) := by
  obtain ⟨hc, tx, rx, lim, -⟩ := (invariants_iff s).1 h
  exact (invariants_iff _).2 ⟨hc, tx, rx, lim, causeCode_le c⟩

theorem invariants_raise (c : Cause) : Invariants (raise c s) :=
  invariants_respond (invariants_record h c) _

theorem invariants_raiseOnRead (c : Cause) : Invariants (raiseOnRead c s) :=
  invariants_respond (invariants_record h c) _

theorem invariants_clearRecord : Invariants (clearRecord s) := by
  obtain ⟨hc, tx, rx, lim, -⟩ := (invariants_iff s).1 h
  exact (invariants_iff _).2 ⟨hc, tx, rx, lim, Nat.zero_le 6⟩

theorem invariants_clearRx : Invariants (clearRx s) := by
  obtain ⟨hc, tx, -, lim, he⟩ := (invariants_iff s).1 h
  exact (invariants_iff _).2 ⟨hc, tx, receiveLegal_empty _ _, lim, he⟩

theorem invariants_invalidate : Invariants (invalidate s) := by
  obtain ⟨hc, tx, rx, lim, he⟩ := (invariants_iff s).1 h
  exact (invariants_iff _).2 ⟨hc, tx, receiveLegal_invalidate rx _ _, lim, he⟩

/-- A DECODE that fails on the checksum writes CKRECV, which R22 ties to RXF[10] only while RXOK = 1. -/
theorem invariants_invalidate_captureChecksums : Invariants (invalidate (captureChecksums s)) := by
  obtain ⟨hc, tx, rx, lim, he⟩ := (invariants_iff s).1 h
  exact (invariants_iff _).2 ⟨hc, tx, receiveLegal_invalidate rx _ _, lim, he⟩

theorem invariants_validate (hcnt : s.rxcnt = 11#4) (hf : frameOk s.rxf = true) :
    Invariants { captureChecksums s with rxok := true, rstat := statusOf s.rxf } := by
  obtain ⟨hc, tx, rx, lim, he⟩ := (invariants_iff s).1 h
  exact (invariants_iff _).2 ⟨hc, tx, receiveLegal_validate rx hcnt hf, lim, he⟩

theorem invariants_loadFrame {f : Vector Byte 11} (hf : IsCommandFrame s.cfg f) : Invariants (loadFrame f s) := by
  obtain ⟨hc, -, rx, lim, he⟩ := (invariants_iff s).1 h
  exact (invariants_iff _).2 ⟨hc, transmitLegal_load hf, rx, lim, he⟩

theorem invariants_startAcquire (l : Limiter) : Invariants (startAcquire l s) := by
  simpa [invariants_iff] using h

theorem invariants_rxDeliver (b : Byte) : Invariants (rxDeliver b s) := by
  obtain ⟨hc, tx, rx, lim, he⟩ := (invariants_iff s).1 h
  rcases Laws.rxDeliver_cases s b with ⟨hroom, e⟩ | ⟨hfull, e⟩ <;> rw [e, invariants_iff]
  · exact ⟨hc, tx, receiveLegal_store rx hroom b, lim, he⟩
  · exact ⟨hc, tx, receiveLegal_overrun rx hfull, lim, he⟩

theorem invariants_txTake {t : State} (hv : s.txv = true) (ht : txTake s = .next t) : Invariants t := by
  obtain ⟨hc, tx, rx, lim, he⟩ := (invariants_iff s).1 h
  obtain ⟨-, rfl⟩ := Laws.txTake_next s ht
  rw [hv] at tx
  exact (invariants_iff _).2 ⟨hc, by simpa [hv] using transmitLegal_take tx, rx, lim, he⟩

theorem invariants_refill : Invariants (refill s) := by
  obtain ⟨hc, tx, rx, lim, he⟩ := (invariants_iff s).1 h
  exact (invariants_iff _).2 ⟨hc, tx, rx, limitersLegal_countDown lim, he⟩

theorem invariants_reload (l : Limiter) :
    Invariants { s.setLimcnt l (intervalWord s.cfg l) with acqp := false } := by
  obtain ⟨hc, tx, rx, lim, he⟩ := (invariants_iff s).1 h
  simpa [invariants_iff, hc, tx, rx, he] using limitersLegal_setLimcnt hc lim l

theorem invariants_tick : Invariants (tick s) := by
  rcases Laws.tick_cases s with ⟨-, e⟩ | ⟨-, -, e⟩ <;> rw [e]
  · exact invariants_refill h
  · exact invariants_respond (invariants_reload (invariants_refill h) s.acql) _

theorem invariants_softReset : Invariants (softReset s) := by
  obtain ⟨hc, -, -, lim, -⟩ := (invariants_iff s).1 h
  exact (invariants_iff _).2 ⟨hc, transmitLegal_empty _, receiveLegal_empty _ _, lim, Nat.zero_le 6⟩

end Shared

/-- R181: of a state before the reset step, the invariants need R6's constraint only. -/
theorem invariants_resetStep {s : State} (hc : s.cfg.wellFormed = true) : Invariants (resetStep s) :=
  (invariants_iff _).2 ⟨hc, transmitLegal_empty _, receiveLegal_empty _ _, limitersLegal_zero _, Nat.zero_le 6⟩

/-! ## Operations, transactions, turns and steps -/

theorem invariants_exec {i : Instr} {s t : State} (h : Invariants s) (ht : exec i s = .next t) : Invariants t := by
  rcases Laws.exec_cases ht with ⟨-, rfl⟩ | ⟨-, rfl | rfl | ⟨-, hid, rfl⟩⟩ | ⟨-, rfl⟩ | ⟨-, rfl⟩ |
    ⟨-, rfl | rfl | ⟨hcnt, -, hf, rfl⟩⟩ | ⟨-, rfl⟩ | ⟨-, rfl⟩ | ⟨l, -, rfl⟩ | ⟨-, rfl⟩
  · exact invariants_respond h _
  · exact invariants_raise h _
  · exact invariants_raise h _
  · exact invariants_respond (invariants_loadFrame h (isCommandFrame_stagedFrame hid)) _
  · simpa [invariants_iff] using h
  · simpa [invariants_iff] using h
  · exact invariants_raise (invariants_invalidate h) _
  · exact invariants_raise (invariants_invalidate_captureChecksums h) _
  · exact invariants_respond (invariants_validate h hcnt hf) _
  · exact invariants_respond (invariants_clearRx h) _
  · exact invariants_respond (invariants_clearRecord h) _
  · exact invariants_startAcquire h l
  · exact invariants_respond (invariants_softReset h) _

theorem invariants_transact {x : HostTx} {s t : State} (h : Invariants s) (ht : transact x s = .next t) :
    Invariants t := by
  rcases Laws.transact_cases ht with ⟨_, _, -, -, rfl⟩ | ⟨_, -, -, rfl⟩ | ⟨_, _, -, -, rfl⟩ | ⟨_, _, -, -, rfl⟩ |
    ⟨_, _, _, -, -, rfl⟩ | ⟨_, v, -, -, rfl⟩ | ⟨_, _, -, -, rfl⟩ | ⟨_, _, -, -, -, rfl⟩ | ⟨_, i, -, -, hi⟩
  · exact invariants_respond h _
  · exact invariants_raiseOnRead h _
  · simpa [invariants_iff] using h
  · simpa [invariants_iff] using h
  · simpa [invariants_iff] using h
  · exact invariants_respond (invariants_rxDeliver h v) _
  · exact invariants_raise h _
  · exact invariants_raise h _
  · exact invariants_exec h hi

theorem invariants_turn {a : Agent} {s t : State} (h : Invariants s) (ht : turn a s = .next t) : Invariants t := by
  rcases Laws.turn_cases ht with ⟨-, rfl | ⟨x, hs, -, -, hx⟩⟩ | ⟨-, rfl | ⟨b, bs, -, rfl⟩⟩ |
    ⟨-, ⟨-, rfl⟩ | ⟨hv, htake⟩⟩ | ⟨-, rfl⟩ | ⟨-, rfl⟩
  · exact h
  · exact invariants_transact (invariants_env h _) hx
  · exact h
  · exact invariants_rxDeliver (invariants_env h _) b
  · exact h
  · exact invariants_txTake h hv htake
  · exact invariants_tick h
  · exact invariants_resetStep h.params

theorem invariants_step {s t : State} (h : Invariants s) (ht : step s = .next t) : Invariants t := by
  rcases Laws.step_cases ht with ⟨-, rfl⟩ | ⟨a, as, -, hturn⟩
  · exact invariants_quiet h
  · exact invariants_turn (invariants_quiet (invariants_env h _)) hturn

/-- Settles O58, operation by operation. -/
theorem everyStepKeepsInvariants : Obligations.EveryStepKeepsInvariants :=
  fun _ _ h ht => invariants_step h ht

/-- Settles O57: the state after reset is what the reset step makes of it. -/
theorem invariantsHoldAtReset : Obligations.InvariantsHoldAtReset :=
  invariants_resetStep (s := State.reset) (by decide)

/-! ## Progress -/

/-- R16, R17: with TXIDX at most 10 there is a byte to take. -/
theorem txTake_completes {s : State} (hi : s.txidx.toNat < 11) : Completes (txTake s) :=
  ⟨_, dif_pos hi⟩

/-- The byte take is the only step that could stop, and R35 (b) rules that out. -/
theorem turn_completes (a : Agent) {s : State} (h : Invariants s) : Completes (turn a s) := by
  cases a with
  | host =>
    simp only [turn, hostTurn]
    split
    · exact ⟨_, rfl⟩
    · split
      · exact ⟨_, rfl⟩
      · exact Laws.transact_completes _ _
  | linkRx =>
    simp only [turn, linkRxTurn]
    split <;> exact ⟨_, rfl⟩
  | linkTx =>
    simp only [turn, linkTxTurn]
    split
    · next hv => exact txTake_completes (Nat.lt_succ_of_le (h.txidxOnOffer hv))
    · exact ⟨_, rfl⟩
  | tick => exact ⟨_, rfl⟩
  | reset => exact ⟨_, rfl⟩

theorem step_completes {s : State} (h : Invariants s) : Completes (step s) := by
  simp only [step, nextStep]
  split
  · exact ⟨_, rfl⟩
  · exact turn_completes _ (invariants_quiet (invariants_env h _))

theorem runTurns_cons_of_turn {a : Agent} {as : List Agent} {s t : State} (h : turn a (quiet s) = .next t) :
    runTurns (a :: as) s = runTurns as t := by
  simp only [runTurns, h]

theorem runTurns_completes (as : List Agent) :
    ∀ {s : State}, Invariants s → ∃ t, runTurns as s = .next t ∧ Invariants t := by
  induction as with
  | nil => exact fun h => ⟨_, rfl, h⟩
  | cons a as ih =>
    intro s h
    obtain ⟨u, hu⟩ := turn_completes a (invariants_quiet h)
    rw [runTurns_cons_of_turn hu]
    exact ih (invariants_turn (invariants_quiet h) hu)

/-- Settles O59, by induction on the agents of the run. -/
theorem runsNeverStop : Obligations.RunsNeverStop := by
  intro s as h
  obtain ⟨t, ht, hinv⟩ := runTurns_completes as h
  exact ⟨t, ht, hinv, step_completes hinv⟩

end Sys2Proof.Proofs
end

section
/-!
The flag views bit by bit (R25, R26, R28).
-/
namespace Sys2Proof.Proofs
open Sys2Proof.Machine

/-! ## A flag appended below a word is its bit 0 and moves the word up by one -/

theorem append_flag_getLsbD_zero {n : Nat} (x : BitVec n) (b : Bool) : (x ++ flag b).getLsbD 0 = b := by
  rw [BitVec.getLsbD_append]
  cases b <;> rfl

theorem append_flag_getLsbD_succ {n : Nat} (x : BitVec n) (b : Bool) (i : Nat) :
    (x ++ flag b).getLsbD (i + 1) = x.getLsbD i := by
  simp [BitVec.getLsbD_append]

/-! ## STATUS -/

theorem racc_iff (s : State) : racc s = true ↔ s.rxok = true ∧ (s.rstat = 3#3 ∨ s.rstat = 4#3) := by
  simp [racc]

/-- The bits of STATUS, 7 first, are the eight flags (R25). -/
theorem statusView_getLsbD (s : State) :
    (statusView s).getLsbD 7 = s.rovr ∧ (statusView s).getLsbD 6 = tokF s ∧ (statusView s).getLsbD 5 = tokN s ∧
    (statusView s).getLsbD 4 = racc s ∧ (statusView s).getLsbD 3 = s.rxok ∧ (statusView s).getLsbD 2 = rxfull s ∧
    (statusView s).getLsbD 1 = s.txv ∧ (statusView s).getLsbD 0 = errBit s := by
  simp only [statusView, append_flag_getLsbD_zero, append_flag_getLsbD_succ, and_true]
  simp [flag]

/-- Settles O35: each flag of STATUS holds exactly under its condition. -/
theorem statusBitsAreViews : Obligations.StatusBitsAreViews := by
  refine ⟨by decide, fun s => ?_⟩
  obtain ⟨h7, h6, h5, h4, h3, h2, h1, h0⟩ := statusView_getLsbD s
  rw [h7, h6, h5, h4, h3, h2, h1, h0]
  exact ⟨.rfl, by simp [tokF], by simp [tokN], racc_iff s, .rfl, by simp [rxfull], .rfl, by simp [errBit]⟩

/-! ## ERRFLG -/

/-- Bits 7:4 of ERRFLG are the zero word that its four flags are appended to (R28). -/
theorem errflgView_high (s : State) : (errflgView s).extractLsb' 4 4 = 0#4 := by
  refine BitVec.eq_of_getLsbD_eq fun i hi => ?_
  simp only [BitVec.getLsbD_extractLsb', hi, decide_true, Bool.true_and, Nat.add_comm 4 i, errflgView,
    append_flag_getLsbD_succ]

/-- Settles O36. -/
theorem errflgBitsAreViews : Obligations.ErrflgBitsAreViews := by
  refine fun s => ⟨errflgView_high s, ?_⟩
  simp only [errflgView, append_flag_getLsbD_zero, append_flag_getLsbD_succ, and_self]

end Sys2Proof.Proofs
end

section
/-!
What turns of the agents leave unchanged: TXF (R15), the limiter counters (R29), the receive buffer (R20, R23).
-/
namespace Sys2Proof.Proofs
open Sys2Proof.Machine

/-! ## TXF -/

/-- Settles O30: of the host's transactions only ENCODE and SRST reach TXF, and no other agent but reset does. -/
theorem txfWrittenOnlyByEncodeSrstReset : Obligations.TxfWrittenOnlyByEncodeSrstReset := by
  intro a s t ht hne
  rcases Laws.turn_cases ht with ⟨ha, rfl | ⟨x, hs, -, henv, hx⟩⟩ | ⟨-, rfl | ⟨b, bs, -, rfl⟩⟩ |
    ⟨-, ⟨-, rfl⟩ | ⟨-, htake⟩⟩ | ⟨-, rfl⟩ | ⟨ha, -⟩
  · exact absurd rfl hne
  · refine .inr ⟨ha, hs, ?_⟩
    by_contra hword
    have hxe : x ≠ .wr 0x00#6 0x01#8 := by rintro rfl; exact hword (.inl henv)
    have hxs : x ≠ .wr 0x00#6 0x0F#8 := by rintro rfl; exact hword (.inr henv)
    exact hne (Laws.transact_frame_tx hx hxe hxs).1
  · exact absurd rfl hne
  · exact absurd (Laws.rxDeliver_frame _ b).1 hne
  · exact absurd rfl hne
  · obtain ⟨_, rfl⟩ := Laws.txTake_next s htake
    exact absurd rfl hne
  · exact absurd (Laws.tick_frame s).1 hne
  · exact .inl ha

/-! ## The limiter counters -/

/-- No operation writes a limiter counter, SRST included (R29, R133). -/
theorem exec_frame_limcnt {i : Instr} {s t : State} (h : exec i s = .next t) :
    t.limcntN = s.limcntN ∧ t.limcntF = s.limcntF := by
  rcases Laws.exec_cases h with ⟨-, rfl⟩ | ⟨-, rfl | rfl | ⟨-, -, rfl⟩⟩ | ⟨-, rfl⟩ | ⟨-, rfl⟩ |
    ⟨-, rfl | rfl | ⟨-, -, -, rfl⟩⟩ | ⟨-, rfl⟩ | ⟨-, rfl⟩ | ⟨l, -, rfl⟩ | ⟨-, rfl⟩ <;>
  exact ⟨rfl, rfl⟩

theorem transact_frame_limcnt {x : HostTx} {s t : State} (h : transact x s = .next t) :
    t.limcntN = s.limcntN ∧ t.limcntF = s.limcntF := by
  rcases Laws.transact_cases h with ⟨_, _, -, -, rfl⟩ | ⟨_, -, -, rfl⟩ | ⟨_, _, -, -, rfl⟩ | ⟨_, _, -, -, rfl⟩ |
    ⟨_, _, _, -, -, rfl⟩ | ⟨_, v, -, -, rfl⟩ | ⟨_, _, -, -, rfl⟩ | ⟨_, _, -, -, -, rfl⟩ | ⟨_, i, -, -, hi⟩
  · exact ⟨rfl, rfl⟩
  · exact ⟨rfl, rfl⟩
  · exact ⟨rfl, rfl⟩
  · exact ⟨rfl, rfl⟩
  · exact ⟨rfl, rfl⟩
  · simp [Laws.rxDeliver_frame s v]
  · exact ⟨rfl, rfl⟩
  · exact ⟨rfl, rfl⟩
  · exact exec_frame_limcnt hi

/-- Settles O50. -/
theorem limiterCountersWrittenOnlyByTick : Obligations.LimiterCountersWrittenOnlyByTick := by
  intro a s t ht hatick hareset
  rcases Laws.turn_cases ht with ⟨-, rfl | ⟨x, hs, -, -, hx⟩⟩ | ⟨-, rfl | ⟨b, bs, -, rfl⟩⟩ |
    ⟨-, ⟨-, rfl⟩ | ⟨-, htake⟩⟩ | ⟨ha, -⟩ | ⟨ha, -⟩
  · exact ⟨rfl, rfl⟩
  · exact (transact_frame_limcnt hx :)
  · exact ⟨rfl, rfl⟩
  · simp [Laws.rxDeliver_frame _ b]
  · exact ⟨rfl, rfl⟩
  · obtain ⟨_, rfl⟩ := Laws.txTake_next s htake
    exact ⟨rfl, rfl⟩
  · exact absurd ha hatick
  · exact absurd ha hareset

/-! ## A full receive buffer -/

/-- The receive buffer and its count are the same in both states, and ROVR has not fallen. -/
def BufferStands (s t : State) : Prop :=
  t.rxf = s.rxf ∧ t.rxcnt = s.rxcnt ∧ (s.rovr = true → t.rovr = true)

/-- R135: a byte delivered to a full buffer is dropped. -/
theorem rxDeliver_bufferStands {s : State} (b : Byte) (h : s.rxcnt = 11#4) : BufferStands s (rxDeliver b s) := by
  simp [BufferStands, rxDeliver, h]

/-- Of the operations only RXCLR and SRST write the receive buffer, and both clear RXOK (R131, R133). -/
theorem exec_bufferStands {i : Instr} {s t : State} (h : exec i s = .next t) :
    BufferStands s t ∨ (t.rxok = false ∧ (i = .rxclr ∨ i = .srst)) := by
  rcases Laws.exec_cases h with ⟨-, rfl⟩ | ⟨-, rfl | rfl | ⟨-, -, rfl⟩⟩ | ⟨-, rfl⟩ | ⟨-, rfl⟩ |
    ⟨-, rfl | rfl | ⟨-, -, -, rfl⟩⟩ | ⟨hi, rfl⟩ | ⟨-, rfl⟩ | ⟨l, -, rfl⟩ | ⟨hi, rfl⟩
  · exact .inl ⟨rfl, rfl, id⟩
  · exact .inl ⟨rfl, rfl, id⟩
  · exact .inl ⟨rfl, rfl, id⟩
  · exact .inl ⟨rfl, rfl, id⟩
  · exact .inl ⟨rfl, rfl, id⟩
  · exact .inl ⟨rfl, rfl, id⟩
  · exact .inl ⟨rfl, rfl, id⟩
  · exact .inl ⟨rfl, rfl, id⟩
  · exact .inl ⟨rfl, rfl, id⟩
  · exact .inr ⟨rfl, .inl hi⟩
  · exact .inl ⟨rfl, rfl, id⟩
  · exact .inl ⟨rfl, rfl, id⟩
  · exact .inr ⟨rfl, .inr hi⟩

theorem transact_bufferStands {x : HostTx} {s t : State} (h : transact x s = .next t) (hfull : s.rxcnt = 11#4) :
    BufferStands s t ∨ (t.rxok = false ∧ (x = .wr 0x00#6 0x05#8 ∨ x = .wr 0x00#6 0x0F#8)) := by
  rcases Laws.transact_cases h with ⟨_, _, -, -, rfl⟩ | ⟨_, -, -, rfl⟩ | ⟨_, _, -, -, rfl⟩ | ⟨_, _, -, -, rfl⟩ |
    ⟨_, _, _, -, -, rfl⟩ | ⟨_, v, -, -, rfl⟩ | ⟨_, _, -, -, rfl⟩ | ⟨_, _, -, -, -, rfl⟩ | ⟨a, i, rfl, ha, hi⟩
  · exact .inl ⟨rfl, rfl, id⟩
  · exact .inl ⟨rfl, rfl, id⟩
  · exact .inl ⟨rfl, rfl, id⟩
  · exact .inl ⟨rfl, rfl, id⟩
  · exact .inl ⟨rfl, rfl, id⟩
  · exact .inl (rxDeliver_bufferStands v hfull)
  · exact .inl ⟨rfl, rfl, id⟩
  · exact .inl ⟨rfl, rfl, id⟩
  · obtain rfl := Laws.locOf_eq_cmd ha
    rcases exec_bufferStands hi with hst | ⟨hok, rfl | rfl⟩
    · exact .inl hst
    · exact .inr ⟨hok, .inl rfl⟩
    · exact .inr ⟨hok, .inr rfl⟩

/-- R135: a full receive buffer stands in every turn but those of reset and of the host's RXCLR and SRST. -/
theorem turn_bufferStands {a : Agent} {s t : State} (h : turn a s = .next t) (hfull : s.rxcnt = 11#4) :
    BufferStands s t ∨ (t.rxok = false ∧ (a = .reset ∨
      (a = .host ∧ ∃ hs, s.env.host = .wr 0x00#6 0x05#8 :: hs ∨ s.env.host = .wr 0x00#6 0x0F#8 :: hs))) := by
  rcases Laws.turn_cases h with ⟨ha, rfl | ⟨x, hs, -, henv, hx⟩⟩ | ⟨-, rfl | ⟨b, bs, -, rfl⟩⟩ |
    ⟨-, ⟨-, rfl⟩ | ⟨-, htake⟩⟩ | ⟨-, rfl⟩ | ⟨ha, rfl⟩
  · exact .inl ⟨rfl, rfl, id⟩
  · rcases transact_bufferStands hx hfull with hst | ⟨hok, rfl | rfl⟩
    · exact .inl hst
    · exact .inr ⟨hok, .inr ⟨ha, hs, .inl henv⟩⟩
    · exact .inr ⟨hok, .inr ⟨ha, hs, .inr henv⟩⟩
  · exact .inl ⟨rfl, rfl, id⟩
  · exact .inl (rxDeliver_bufferStands (s := { s with env := _ }) b hfull)
  · exact .inl ⟨rfl, rfl, id⟩
  · obtain ⟨_, rfl⟩ := Laws.txTake_next s htake
    exact .inl ⟨rfl, rfl, id⟩
  · rcases Laws.tick_cases s with ⟨-, e⟩ | ⟨-, -, e⟩ <;> rw [e] <;> exact .inl (by simp [BufferStands])
  · exact .inr ⟨rfl, .inl ha⟩

/-- Settles O26: with ROVR = 1 the buffer is full, by R35 (g), so it stands. -/
theorem overrunIsSticky : Obligations.OverrunIsSticky := by
  intro a s t hinv ho ht
  rcases turn_bufferStands ht (hinv.overrunFull ho) with ⟨hf, hc, hov⟩ | ⟨-, hwho⟩
  · exact .inl ⟨hov ho, hf, hc⟩
  · exact .inr hwho

theorem step_bufferStands {s t : State} (h : step s = .next t) (hfull : s.rxcnt = 11#4) :
    BufferStands s t ∨ t.rxok = false := by
  rcases Laws.step_cases h with ⟨-, rfl⟩ | ⟨a, as, -, hturn⟩
  · exact .inl ⟨rfl, rfl, id⟩
  · exact (turn_bufferStands hturn hfull).imp_right And.left

/-- Settles O56: with RXOK = 1 the buffer is full, by R35 (f), so it stands while RXOK does; and RSTAT is its status in both
states, because the step keeps the invariants. -/
theorem validatedResponseIsStable : Obligations.ValidatedResponseIsStable := by
  intro s t hinv ht hs hok
  obtain ⟨hfull, -, hstat, -⟩ := hinv.validated hs
  obtain ⟨-, -, hstat', -⟩ := (invariants_step hinv ht).validated hok
  rcases step_bufferStands ht hfull with ⟨hf, hc, -⟩ | hno
  · exact ⟨hf, hc, by rw [hstat', hf, hstat]⟩
  · simp [hok] at hno

end Sys2Proof.Proofs
end

section
/-!
R30: while ACQP = 0 no rule reads ACQL. Started with another ACQL, a turn carries it along or overwrites it.
-/
namespace Sys2Proof.Proofs
open Sys2Proof.Machine

/-! ## The turns of the agents that have something to do or nothing -/

section Turns
variable {s : State}

theorem hostTurn_of_nil (h : s.env.host = []) : hostTurn s = .next s := by
  unfold hostTurn
  rw [h]
  split <;> rfl

theorem hostTurn_of_cons {x : HostTx} {hs : List HostTx} (hp : s.acqp = false) (h : s.env.host = x :: hs) :
    hostTurn s = transact x { s with env := { host := hs, rx := s.env.rx, sched := s.env.sched } } := by
  simp [hostTurn, hp, h]

theorem linkRxTurn_of_nil (h : s.env.rx = []) : linkRxTurn s = .next s := by
  simp [linkRxTurn, h]

theorem linkRxTurn_of_cons {b : Byte} {bs : List Byte} (h : s.env.rx = b :: bs) :
    linkRxTurn s = .next (rxDeliver b { s with env := { host := s.env.host, rx := bs, sched := s.env.sched } }) := by
  simp [linkRxTurn, h]

theorem linkTxTurn_of_idle (h : s.txv = false) : linkTxTurn s = .next s := by
  simp [linkTxTurn, h]

theorem linkTxTurn_of_offer (h : s.txv = true) : linkTxTurn s = txTake s := by
  simp [linkTxTurn, h]

theorem tick_of_acqp_false (hp : s.acqp = false) : tick s = refill s := by
  simp [tick, grant, grantDue, hp]

end Turns

/-! ## The shared operations with another ACQL -/

theorem rxDeliver_setAcql (l : Limiter) (b : Byte) (s : State) :
    rxDeliver b { s with acql := l } = { rxDeliver b s with acql := l } := by
  unfold rxDeliver
  split <;> rfl

theorem readAddr_setAcql (l : Limiter) (a : Addr) (s : State) : readAddr { s with acql := l } a = readAddr s a := by
  unfold readAddr
  cases locOf a <;> rfl

theorem txTake_setAcql {l : Limiter} {s t : State} (h : txTake s = .next t) :
    txTake { s with acql := l } = .next { t with acql := l } ∧ t.acqp = s.acqp := by
  obtain ⟨hi, rfl⟩ := Laws.txTake_next s h
  exact ⟨dif_pos hi, rfl⟩

/-! ## Operations, transactions and turns with another ACQL -/

/-- `f` answers `t` at `s`; with ACQL = l there it answers the same with ACQL = l and the port still free, or `t` itself. -/
def AcqlIgnored (f : State → Host.Outcome State Fault Refusal) (l : Limiter) (s t : State) : Prop :=
  (f { s with acql := l } = .next { t with acql := l } ∧ t.acqp = false) ∨ f { s with acql := l } = .next t

section Ignored
variable {s t : State} (hp : s.acqp = false) (l : Limiter)
include hp

/-- ACQUIRE and SRST overwrite ACQL; the other operations carry it along. -/
theorem exec_acqlIgnored {i : Instr} (h : exec i s = .next t) : AcqlIgnored (exec i) l s t := by
  cases i <;> simp only [exec] at h
  case encode =>
    refine .inl ?_
    rcases Laws.execEncode_cases s with ⟨hlen, e⟩ | ⟨hlen, hid, e⟩ | ⟨hlen, hid, e⟩ <;> rw [e] at h <;> cases h
    · exact ⟨if_pos hlen, hp⟩
    · exact ⟨(if_neg hlen).trans (if_pos hid), hp⟩
    · exact ⟨(if_neg hlen).trans (if_neg (Bool.eq_false_iff.1 hid)), hp⟩
  case decode =>
    refine .inl ?_
    rcases Laws.execDecode_cases s with ⟨hbad, e⟩ | ⟨hc, ho, hf, e⟩ | ⟨hc, ho, hf, e⟩ <;> rw [e] at h <;> cases h
    · exact ⟨if_pos hbad, hp⟩
    · exact ⟨(if_neg (by simp [hc, ho])).trans (if_pos hf), hp⟩
    · exact ⟨(if_neg (by simp [hc, ho])).trans (if_neg (Bool.eq_false_iff.1 hf)), hp⟩
  case acquireN => exact .inr h
  case acquireF => exact .inr h
  case srst => exact .inr h
  all_goals
    cases h
    exact .inl ⟨rfl, hp⟩

theorem hostRead_acqlIgnored {a : Addr} (h : hostRead a s = .next t) : AcqlIgnored (hostRead a) l s t := by
  unfold AcqlIgnored
  simp only [hostRead, readAddr_setAcql] at h ⊢
  split at h <;> cases h <;> exact .inl ⟨rfl, hp⟩

theorem startOperation_acqlIgnored {w : Byte} (h : startOperation w s = .next t) :
    AcqlIgnored (startOperation w) l s t := by
  unfold AcqlIgnored
  simp only [startOperation] at h ⊢
  cases hd : decode w with
  | ok i =>
    simp only [hd] at h ⊢
    exact exec_acqlIgnored hp l h
  | error e =>
    simp only [hd] at h ⊢
    cases h
    exact .inl ⟨rfl, hp⟩

theorem hostWrite_acqlIgnored {a : Addr} {v : Byte} (h : hostWrite a v s = .next t) :
    AcqlIgnored (hostWrite a v) l s t := by
  unfold AcqlIgnored
  simp only [hostWrite] at h ⊢
  cases hl : locOf a <;> simp only [hl] at h ⊢
  case cmd => exact startOperation_acqlIgnored hp l h
  case rxpush =>
    cases h
    refine .inl ⟨?_, by simp [Laws.rxDeliver_frame s v, hp]⟩
    rw [rxDeliver_setAcql]
    rfl
  all_goals
    cases h
    exact .inl ⟨rfl, hp⟩

theorem transact_acqlIgnored {x : HostTx} (h : transact x s = .next t) : AcqlIgnored (transact x) l s t := by
  cases x with
  | rd a => exact hostRead_acqlIgnored hp l h
  | wr a v => exact hostWrite_acqlIgnored hp l h

theorem hostTurn_acqlIgnored (h : hostTurn s = .next t) : AcqlIgnored hostTurn l s t := by
  cases henv : s.env.host with
  | nil =>
    rw [hostTurn_of_nil henv] at h
    cases h
    exact .inl ⟨hostTurn_of_nil henv, hp⟩
  | cons x hs =>
    rw [hostTurn_of_cons hp henv] at h
    have heq := hostTurn_of_cons (s := { s with acql := l }) hp henv
    exact (transact_acqlIgnored (by exact hp) l h).imp (.imp_left heq.trans) heq.trans

theorem linkRxTurn_acqlIgnored (h : linkRxTurn s = .next t) : AcqlIgnored linkRxTurn l s t := by
  cases henv : s.env.rx with
  | nil =>
    rw [linkRxTurn_of_nil henv] at h
    cases h
    exact .inl ⟨linkRxTurn_of_nil henv, hp⟩
  | cons b bs =>
    rw [linkRxTurn_of_cons henv] at h
    cases h
    have heq := linkRxTurn_of_cons (s := { s with acql := l }) henv
    exact .inl ⟨heq.trans (congrArg _ (rxDeliver_setAcql l b { s with env := _ })), by simp [Laws.rxDeliver_frame, hp]⟩

theorem linkTxTurn_acqlIgnored (h : linkTxTurn s = .next t) : AcqlIgnored linkTxTurn l s t := by
  cases hv : s.txv with
  | false =>
    rw [linkTxTurn_of_idle hv] at h
    cases h
    exact .inl ⟨linkTxTurn_of_idle hv, hp⟩
  | true =>
    rw [linkTxTurn_of_offer hv] at h
    obtain ⟨htake, hkeep⟩ := txTake_setAcql (l := l) h
    exact .inl ⟨(linkTxTurn_of_offer (s := { s with acql := l }) hv).trans htake, hkeep.trans hp⟩

/-- A TICK reads ACQL only for a grant, and there is none without a pending ACQUIRE; reset overwrites it. -/
theorem turn_acqlIgnored {a : Agent} (h : turn a s = .next t) : AcqlIgnored (turn a) l s t := by
  cases a with
  | host => exact hostTurn_acqlIgnored hp l h
  | linkRx => exact linkRxTurn_acqlIgnored hp l h
  | linkTx => exact linkTxTurn_acqlIgnored hp l h
  | tick =>
    cases h
    rw [tick_of_acqp_false hp]
    exact .inl ⟨congrArg _ (tick_of_acqp_false (s := { s with acql := l }) hp), hp⟩
  | reset => exact .inr h

end Ignored

/-- Settles O51: whether a turn carries the other ACQL along or overwrites it, nothing else tells the two apart. -/
theorem idleAcqlIsUnobservable : Obligations.IdleAcqlIsUnobservable := by
  intro a s t l hp ht
  rcases turn_acqlIgnored hp l ht with ⟨hturn, hfree⟩ | hturn
  · exact ⟨_, hturn, rfl, fun hheld => absurd hheld (by simp [hfree])⟩
  · exact ⟨_, hturn, rfl, fun _ => rfl⟩

end Sys2Proof.Proofs
end

section
/-!
The turns in the schedule and the host port: who moves in a step (R50, R51), and the register map's reads, writes and
access faults (R41 to R47).
-/
namespace Sys2Proof.Proofs
open Sys2Proof.Machine

/-! ## The scheduled turn -/

section Scheduled
variable {s : State}

theorem step_of_nil (h : s.env.sched = []) : step s = .next (quiet s) := by
  simp [step, nextStep, h]

theorem step_of_cons {a : Agent} {as : List Agent} (h : s.env.sched = a :: as) :
    step s = turn a (quiet { s with env := { host := s.env.host, rx := s.env.rx, sched := as } }) := by
  simp [step, nextStep, h]

theorem hostTurn_of_held (h : s.acqp = true) : hostTurn s = .next s := by
  simp [hostTurn, h]

theorem startOperation_of_ok {w : Byte} {i : Instr} (h : decode w = .ok i) : startOperation w s = exec i s := by
  simp [startOperation, h]

end Scheduled

/-- Settles O5. -/
theorem stepIsScheduledTurn : Obligations.StepIsScheduledTurn :=
  ⟨fun _ _ _ h => step_of_cons h, fun _ h => step_of_nil h⟩

/-- Settles O6. -/
theorem heldPortStartsNoTransaction : Obligations.HeldPortStartsNoTransaction :=
  ⟨fun _ h => hostTurn_of_held h, fun _ _ _ hp henv => hostTurn_of_cons hp henv⟩

/-- Settles O3: the step is the host's turn, its turn the write to CMD, and that write the operation. -/
theorem stepRunsDecodedOperation : Obligations.StepRunsDecodedOperation := by
  intro s w i hs as hp henv hsched hw
  rw [step_of_cons hsched, turn, hostTurn_of_cons (by exact hp) (by exact henv)]
  exact startOperation_of_ok hw

/-! ## The register map -/

theorem locOf_pay : ∀ i : Fin 7, locOf (BitVec.ofNat 6 (0x08 + i)) = .pay i := by
  decide

theorem locOf_txf : ∀ i : Fin 11, locOf (BitVec.ofNat 6 (0x10 + i)) = .txf i := by
  decide

theorem locOf_rxf : ∀ i : Fin 11, locOf (BitVec.ofNat 6 (0x20 + i)) = .rxf i := by
  decide

/-- R46, R47: the addresses at which the map allows no read. -/
theorem access_of_unreadable : ∀ a : Addr,
    (a.toNat = 0x00 ∨ a.toNat = 0x2C ∨ (0x1C ≤ a.toNat ∧ a.toNat ≤ 0x1F) ∨ 0x2D ≤ a.toNat) →
    (locOf a).access = .wo ∨ (locOf a).access = .none := by
  decide

/-- R46, R47: the addresses at which the map allows no write. -/
theorem access_of_unwritable : ∀ a : Addr,
    ((0x01 ≤ a.toNat ∧ a.toNat ≤ 0x03) ∨ a.toNat = 0x06 ∨ a.toNat = 0x07 ∨
      (0x0F ≤ a.toNat ∧ a.toNat ≤ 0x2B) ∨ 0x2D ≤ a.toNat) →
    (locOf a).access = .ro ∨ (locOf a).access = .none := by
  decide

/-! ## Reads -/

section Reads
variable {s : State} {a : Addr}

theorem readAddr_of_locOf {l : Loc} (h : locOf a = l) : readAddr s a = readLoc s l := by
  rw [readAddr, h]

theorem readAddr_of_access (h : (locOf a).access = .wo ∨ (locOf a).access = .none) : readAddr s a = none := by
  unfold readAddr
  cases hl : locOf a <;> simp [hl, Loc.access] at h <;> rfl

theorem transact_rd_of_some {d : Byte} (h : readAddr s a = some d) :
    transact (.rd a) s = .next (respond (.okData d) s) := by
  simp [transact, hostRead, h]

theorem transact_rd_of_none (h : readAddr s a = none) :
    transact (.rd a) s = .next (raiseOnRead .registerAccess s) := by
  simp [transact, hostRead, h]

/-- No location of the map shows the port's response. -/
theorem readAddr_respond (p : PortOut) : readAddr (respond p s) a = readAddr s a := by
  unfold readAddr
  cases locOf a <;> rfl

end Reads

/-- Settles O31. -/
theorem readGivesRegister : Obligations.ReadGivesRegister := fun _ =>
  ⟨rfl, rfl, rfl, rfl, rfl, rfl, rfl, fun i h => readAddr_of_locOf (locOf_pay ⟨i, h⟩), rfl,
    fun i h => readAddr_of_locOf (locOf_txf ⟨i, h⟩), rfl, fun i h => readAddr_of_locOf (locOf_rxf ⟨i, h⟩), rfl,
    fun _ _ h => transact_rd_of_some h⟩

/-! ## Writes -/

/-- A write of `v` to a location that can be read and written (R43). -/
def storeLoc (v : Byte) (s : State) : Loc → State
  | .devid => { s with devid := v }
  | .plen => { s with plen := v }
  | .pay i => { s with pay := s.pay.set i.val v i.isLt }
  | _ => s

section Writes
variable {s : State} {a : Addr} {l : Loc}

theorem transact_wr_of_rw (hl : locOf a = l) (hrw : l.access = .rw) (v : Byte) :
    transact (.wr a v) s = .next (respond .ok (storeLoc v s l)) := by
  simp only [transact, hostWrite, hl]
  cases l <;> simp [Loc.access] at hrw <;> rfl

theorem transact_wr_of_access (h : (locOf a).access = .ro ∨ (locOf a).access = .none) (v : Byte) :
    transact (.wr a v) s = .next (raise .registerAccess s) := by
  simp only [transact, hostWrite]
  cases hl : locOf a <;> simp [hl, Loc.access] at h <;> rfl

/-- A response shows nowhere in a store, and a second store of the same byte writes what is there already. -/
theorem storeLoc_respond_storeLoc (v : Byte) (p : PortOut) :
    storeLoc v (respond p (storeLoc v s l)) l = respond p (storeLoc v s l) := by
  cases l <;> simp [storeLoc, respond]

end Writes

/-- Settles O32. -/
theorem writeStoresRegister : Obligations.WriteStoresRegister := fun _ v =>
  ⟨transact_wr_of_rw (l := .devid) rfl rfl v, transact_wr_of_rw (l := .plen) rfl rfl v,
    fun i h => transact_wr_of_rw (locOf_pay ⟨i, h⟩) rfl v⟩

/-- Settles O34: the response of the first transaction shows in no register, and the byte it stored is stored again. -/
theorem registerAccessIsIdempotent : Obligations.RegisterAccessIsIdempotent := by
  rintro x s t (⟨a, d, rfl, hd⟩ | ⟨a, v, rfl, hrw⟩) ht
  · rw [transact_rd_of_some hd] at ht
    cases ht
    rw [transact_rd_of_some ((readAddr_respond _).trans hd)]
    rfl
  · rw [transact_wr_of_rw rfl hrw] at ht
    cases ht
    rw [transact_wr_of_rw rfl hrw, storeLoc_respond_storeLoc]
    rfl

/-! ## Access faults -/

/-- R150, R156, R157: the record of cause 4. -/
theorem record_registerAccess (s : State) : record .registerAccess s = { s with errc := 4#3, eia := true } := by
  simp [record, causeCode, isInvalidArgument]

/-- Settles O33. -/
theorem accessViolationFaults : Obligations.AccessViolationFaults := by
  refine ⟨fun s a h => ?_, fun s a v h => ?_⟩
  · rw [transact_rd_of_none (readAddr_of_access (access_of_unreadable a h)), raiseOnRead, record_registerAccess]
    rfl
  · rw [transact_wr_of_access (access_of_unwritable a h), raise, record_registerAccess]
    rfl

/-! ## The host's registers -/

/-- R53 (c): the registers that only host steps and reset change are the same in both states. -/
def HostRegistersKept (s t : State) : Prop :=
  t.devid = s.devid ∧ t.plen = s.plen ∧ t.pay = s.pay ∧ t.txf = s.txf ∧ t.ckcalc = s.ckcalc ∧ t.ckrecv = s.ckrecv ∧
  t.rxok = s.rxok ∧ t.rstat = s.rstat ∧ t.errc = s.errc ∧ errflgView t = errflgView s

theorem hostRegistersKept_refl (s : State) : HostRegistersKept s s := by
  simp [HostRegistersKept]

theorem rxDeliver_hostRegistersKept (b : Byte) (s : State) : HostRegistersKept s (rxDeliver b s) := by
  rcases Laws.rxDeliver_cases s b with ⟨_, e⟩ | ⟨_, e⟩ <;> rw [e] <;> exact hostRegistersKept_refl s

theorem tick_hostRegistersKept (s : State) : HostRegistersKept s (tick s) := by
  rcases Laws.tick_cases s with ⟨_, e⟩ | ⟨_, _, e⟩ <;> rw [e] <;> simp [HostRegistersKept, errflgView]

/-- Settles O55. -/
theorem hostRegistersChangedOnlyByHost : Obligations.HostRegistersChangedOnlyByHost := by
  intro a s t ht hhost hreset
  change HostRegistersKept s t
  rcases Laws.turn_cases ht with ⟨ha, -⟩ | ⟨-, rfl | ⟨b, bs, -, rfl⟩⟩ | ⟨-, ⟨-, rfl⟩ | ⟨-, htake⟩⟩ | ⟨-, rfl⟩ | ⟨ha, -⟩
  · exact absurd ha hhost
  · exact hostRegistersKept_refl _
  · exact rxDeliver_hostRegistersKept b { s with env := _ }
  · exact hostRegistersKept_refl _
  · obtain ⟨_, rfl⟩ := Laws.txTake_next s htake
    exact hostRegistersKept_refl s
  · exact tick_hostRegistersKept s
  · exact absurd ha hreset

end Sys2Proof.Proofs
end

section
/-!
A frame on offer leaves in index order (R48, R136, R137): each take moves the frame on by one byte, and no other turn
touches the transmit side while the host writes neither ENCODE nor SRST to CMD.
-/
namespace Sys2Proof.Proofs
open Sys2Proof.Machine

/-! ## The transmit side while a frame leaves -/

/-- Bytes 0 to k - 1 of the frame `f` have left: TXIDX is k, and TXV is 1 while there are bytes to go. -/
structure SentUpTo (f : Vector Byte 11) (k : Nat) (s : State) : Prop where
  frame : s.txf = f
  index : s.txidx.toNat = k
  onOffer : s.txv = decide (k < 11)

/-- The next `n` transactions of the host are no write of ENCODE or SRST to CMD. -/
def SparesFrame (n : Nat) (xs : List HostTx) : Prop :=
  ∀ x ∈ xs.take n, x ≠ .wr 0x00#6 0x01#8 ∧ x ≠ .wr 0x00#6 0x0F#8

/-- The transmit side and the line are the same in both states. -/
def TransmitKept (s t : State) : Prop :=
  t.txf = s.txf ∧ t.txidx = s.txidx ∧ t.txv = s.txv ∧ t.line = s.line

theorem SparesFrame.mono {m n : Nat} {xs : List HostTx} (h : SparesFrame n xs) (hmn : m ≤ n) : SparesFrame m xs :=
  fun x hx => h x (List.take_subset_take_left xs hmn hx)

theorem SparesFrame.tail {n : Nat} {x : HostTx} {xs : List HostTx} (h : SparesFrame (n + 1) (x :: xs)) :
    SparesFrame n xs :=
  fun y hy => h y (List.mem_cons_of_mem x hy)

theorem sentUpTo_of_kept {f : Vector Byte 11} {k : Nat} {s t : State} (h : SentUpTo f k s) (hkept : TransmitKept s t) :
    SentUpTo f k t := by
  obtain ⟨hf, hi, hv, -⟩ := hkept
  exact ⟨hf.trans h.frame, hi ▸ h.index, hv.trans h.onOffer⟩

/-! ## One turn -/

/-- R136: a take puts byte k on the line and moves the frame on. -/
theorem linkTxTurn_sends {f : Vector Byte 11} {k : Nat} {s t : State} (h : SentUpTo f k s) (hk : k < 11)
    (ht : linkTxTurn s = .next t) : SentUpTo f (k + 1) t ∧ t.line = some f[k] ∧ t.env = s.env := by
  obtain ⟨rfl, rfl, hv⟩ := h
  rw [linkTxTurn_of_offer (hv.trans (decide_eq_true hk))] at ht
  obtain ⟨-, rfl⟩ := Laws.txTake_next s ht
  have hlast : (s.txidx != 10#4) = decide (s.txidx.toNat + 1 < 11) := by
    rw [Bool.eq_iff_iff, bne_iff_ne, decide_eq_true_iff, ne_eq, ← BitVec.toNat_inj, BitVec.toNat_ofNat]
    omega
  refine ⟨⟨rfl, ?_, ?_⟩, rfl, rfl⟩
  · simp [BitVec.toNat_add]; omega
  · simp [hv, hk, hlast]

theorem hostTurn_sparing {n : Nat} {s t : State} (h : SparesFrame (n + 1) s.env.host) (ht : hostTurn s = .next t) :
    TransmitKept s t ∧ SparesFrame n t.env.host := by
  rcases Laws.turn_cases (a := .host) ht with ⟨-, rfl | ⟨x, hs, -, henv, hx⟩⟩ | ⟨ha, -⟩ | ⟨ha, -⟩ | ⟨ha, -⟩ | ⟨ha, -⟩
  · exact ⟨⟨rfl, rfl, rfl, rfl⟩, h.mono n.le_succ⟩
  · rw [henv] at h
    obtain ⟨hxe, hxs⟩ := h x (by simp)
    obtain ⟨hf, hi, hv, he, hline⟩ := Laws.transact_frame_tx hx hxe hxs
    exact ⟨⟨hf, hi, hv, hline⟩, he ▸ h.tail⟩
  all_goals cases ha

/-- R53: neither a delivery nor a TICK touches the transmit side, and the host's turn does not while it spares the
frame. -/
theorem turn_sparing {a : Agent} {as : List Agent} {s t : State} (htx : a ≠ .linkTx) (hreset : a ≠ .reset)
    (h : SparesFrame ((a :: as).count .host) s.env.host) (ht : turn a s = .next t) :
    TransmitKept s t ∧ SparesFrame (as.count .host) t.env.host := by
  cases a with
  | host => exact hostTurn_sparing (by simpa using h) ht
  | linkRx =>
    cases henv : s.env.rx with
    | nil =>
      cases (linkRxTurn_of_nil henv).symm.trans ht
      exact ⟨⟨rfl, rfl, rfl, rfl⟩, h⟩
    | cons b bs =>
      cases (linkRxTurn_of_cons henv).symm.trans ht
      simpa [TransmitKept, Laws.rxDeliver_frame] using h
  | linkTx => exact absurd rfl htx
  | tick =>
    cases ht
    simpa [TransmitKept, Laws.tick_frame] using h
  | reset => exact absurd rfl hreset

/-! ## A run -/

theorem runTurns_cons_next {a : Agent} {as : List Agent} {s t : State} (h : runTurns (a :: as) s = .next t) :
    ∃ u, turn a (quiet s) = .next u ∧ runTurns as u = .next t := by
  unfold runTurns at h
  split at h
  · next u hu => exact ⟨u, hu, h⟩
  all_goals cases h

theorem lineBytes_cons_of_turn {a : Agent} {s u : State} (h : turn a (quiet s) = .next u) (as : List Agent) :
    lineBytes (a :: as) s = u.line.toList ++ lineBytes as u := by
  simp only [lineBytes, h]

theorem toList_drop_of_lt {f : Vector Byte 11} {k : Nat} (h : k < 11) :
    f.toList.drop k = f[k] :: f.toList.drop (k + 1) := by
  rw [List.drop_eq_getElem_cons (by simpa using h), Vector.getElem_toList]

/-- With k bytes gone, a run in which LINK-TX has n turns puts the next n bytes on the line, as far as there are any. -/
theorem runTurns_sends {f : Vector Byte 11} {t : State} (as : List Agent) :
    ∀ {k : Nat} {s : State}, k ≤ 11 → SentUpTo f k s → .reset ∉ as → SparesFrame (as.count .host) s.env.host →
      runTurns as s = .next t →
      lineBytes as s = (f.toList.drop k).take (as.count .linkTx) ∧ SentUpTo f (min 11 (k + as.count .linkTx)) t := by
  induction as with
  | nil =>
    intro k s hk hs _ _ ht
    cases ht
    simpa [lineBytes, hk] using hs
  | cons a as ih =>
    intro k s hk hs hreset hspare ht
    obtain ⟨u, hu, hrun⟩ := runTurns_cons_next ht
    obtain ⟨ha, has⟩ : Agent.reset ≠ a ∧ Agent.reset ∉ as := by simpa using hreset
    have hq : SentUpTo f k (quiet s) := ⟨hs.frame, hs.index, hs.onOffer⟩
    rw [lineBytes_cons_of_turn hu]
    by_cases htx : a = .linkTx
    · subst htx
      have hcount : (Agent.linkTx :: as).count .linkTx = as.count .linkTx + 1 := List.count_cons_self
      rw [hcount]
      rcases hk.lt_or_eq with hlt | rfl
      · obtain ⟨hsent, hline, henv⟩ := linkTxTurn_sends hq hlt hu
        obtain ⟨hbytes, hend⟩ := ih hlt hsent has (by simpa [henv] using hspare) hrun
        refine ⟨?_, by rwa [Nat.succ_add_eq_add_succ] at hend⟩
        rw [hline, hbytes, toList_drop_of_lt hlt]
        rfl
      · cases (linkTxTurn_of_idle hq.onOffer).symm.trans hu
        obtain ⟨hbytes, hend⟩ := ih hk hq has (by simpa using hspare) hrun
        exact ⟨by simp [hbytes], by simpa using hend⟩
    · obtain ⟨hkept, hspare'⟩ := turn_sparing (s := quiet s) htx ha.symm hspare hu
      have hsent := sentUpTo_of_kept hq hkept
      obtain ⟨-, -, -, hline⟩ := hkept
      rw [List.count_cons_of_ne htx, hline]
      exact ih hk hsent has hspare' hrun

/-- Settles O28: the run starts with no byte of TXF gone, and eleven takes put all of them on the line. -/
theorem frameLeavesInIndexOrder : Obligations.FrameLeavesInIndexOrder := by
  intro s t as hv hi hspare hreset hcount ht
  have hs : SentUpTo s.txf 0 s := ⟨rfl, by simp [hi], by simp [hv]⟩
  obtain ⟨hbytes, hend⟩ := runTurns_sends as (Nat.zero_le 11) hs hreset hspare ht
  rw [Nat.zero_add, Nat.min_eq_left hcount] at hend
  refine ⟨?_, BitVec.eq_of_toNat_eq hend.index, hend.onOffer, hend.frame⟩
  rw [hbytes, List.drop_zero, List.take_of_length_le (by simpa using hcount)]

end Sys2Proof.Proofs
end

section
/-!
The operation words (R75, R79, R80): each operation has one word, and every other byte is refused.
-/
namespace Sys2Proof.Proofs

theorem roundTrip : ∀ i : Instr, Laws.RoundTrip.Statement i
  | .nop => Laws.RoundTrip.nop
  | .encode => Laws.RoundTrip.encode
  | .cksumT => Laws.RoundTrip.cksumT
  | .cksumR => Laws.RoundTrip.cksumR
  | .decode => Laws.RoundTrip.decode
  | .rxclr => Laws.RoundTrip.rxclr
  | .clrerr => Laws.RoundTrip.clrerr
  | .acquireN => Laws.RoundTrip.acquireN
  | .acquireF => Laws.RoundTrip.acquireF
  | .srst => Laws.RoundTrip.srst

@[simp] theorem decode_encode (i : Instr) : decode (encode i) = .ok i := (roundTrip i).2

theorem encode_highNibble (i : Instr) : (encode i).extractLsb' 4 4 = 0#4 := by
  cases i <;> rfl

/-- The words of R79 lie outside the ranges of R80. -/
theorem encode_not_reserved (i : Instr) :
    ¬((encode i).toNat = 0x07 ∨ (0x0A ≤ (encode i).toNat ∧ (encode i).toNat ≤ 0x0E) ∨ 0x10 ≤ (encode i).toNat) := by
  cases i <;> decide

theorem decode_of_reserved {w : Byte} (h : w.toNat = 0x07 ∨ (0x0A ≤ w.toNat ∧ w.toNat ≤ 0x0E) ∨ 0x10 ≤ w.toNat) :
    decode w = .error (.reservedWord w) := by
  cases hd : decode w with
  | ok i =>
    rw [Laws.eq_encode_of_decode hd] at h
    exact absurd h (encode_not_reserved i)
  | error e => rw [Laws.decode_error hd]

/-- Settles O1: the ten words are the encodings of the ten operations. -/
theorem operationMapCoversEveryWord : Obligations.OperationMapCoversEveryWord :=
  ⟨decode_encode .nop, decode_encode .encode, decode_encode .cksumT, decode_encode .cksumR, decode_encode .decode,
    decode_encode .rxclr, decode_encode .clrerr, decode_encode .acquireN, decode_encode .acquireF, decode_encode .srst,
    fun _ h => decode_of_reserved h⟩

/-- Settles O2: a word that decodes to an operation is that operation's encoding, so its high bits are zero. -/
theorem decodeEncodeAgree : Obligations.DecodeEncodeAgree := by
  refine ⟨fun i _ => decode_encode i, fun w i h => ?_⟩
  rw [Laws.eq_encode_of_decode h]
  exact ⟨rfl, encode_highNibble i⟩

end Sys2Proof.Proofs
end

section
/-!
The checksum's arithmetic (R90, R91), the test of an eleven-byte frame, and what a change of one byte does to it (R94,
R108).
-/
namespace Sys2Proof.Proofs
open Sys2Proof.Machine

/-! ## The checksum of ten bytes -/

/-- R90, in the integers. -/
theorem cksum7_toNat_int (s : Vector Byte 10) : ((cksum7 s).toNat : Int) = (0x80 - sum7 s : Int) % 128 := by
  simp only [cksum7, ckBase, BitVec.toNat_ofInt]
  omega

/-- R91 (a). -/
theorem cksum7_toNat_neg (s : Vector Byte 10) : ((cksum7 s).toNat : Int) = (-(sum7 s : Int)) % 128 := by
  have h := cksum7_toNat_int s
  omega

/-- R91 (b), in the naturals. -/
theorem cksum7_toNat (s : Vector Byte 10) : (cksum7 s).toNat = (128 - sum7 s % 128) % 128 := by
  have h := cksum7_toNat_int s
  omega

/-- R91 (d): a number of 7 bits is the checksum exactly when it makes the sum a multiple of 128. -/
theorem toNat_eq_cksum7_iff (s : Vector Byte 10) (n : Nat) :
    n = (cksum7 s).toNat ↔ n ≤ 127 ∧ (sum7 s + n) % 128 = 0 := by
  have h := cksum7_toNat s
  omega

/-- The checksum is the two's complement of the 7-bit sum. -/
theorem cksum7_eq_neg (s : Vector Byte 10) : cksum7 s = -BitVec.ofNat 7 (sum7 s) :=
  BitVec.eq_of_toNat_eq (by simp [cksum7_toNat])

theorem extractLsb'_eq_low7 (b : Byte) : b.extractLsb' 0 7 = BitVec.ofNat 7 (low7 b) :=
  BitVec.eq_of_toNat_eq (by simp [Laws.low7_eq])

/-- The accumulator of R91 (c), from any start: it holds the sum modulo 128. -/
theorem foldl_low7 (l : List Byte) (a : BitVec 7) :
    l.foldl (fun (a : BitVec 7) b => a + b.extractLsb' 0 7) a = a + BitVec.ofNat 7 (l.map low7).sum := by
  induction l generalizing a with
  | nil => simp
  | cons b bs ih =>
    rw [List.foldl_cons, ih, extractLsb'_eq_low7, List.map_cons, List.sum_cons, BitVec.ofNat_add, BitVec.add_assoc]

/-- R91 (c). -/
theorem cksum7_eq_complement_add_one (s : Vector Byte 10) :
    cksum7 s = (s.toList.foldl (fun (a : BitVec 7) b => a + b.extractLsb' 0 7) 0#7 ^^^ 0x7F#7) + 1#7 := by
  rw [foldl_low7, BitVec.zero_add, show 0x7F#7 = BitVec.allOnes 7 from rfl, BitVec.xor_allOnes, ← BitVec.neg_eq_not_add]
  exact cksum7_eq_neg s

/-- Settles O7: `sum7` written out over the ten bytes. -/
theorem checksumFollowsFormula : Obligations.ChecksumFollowsFormula := by
  intro s
  simpa [sum7, Laws.toList_ten, low7, ckMask, Nat.add_assoc] using cksum7_toNat_int s

/-! ## The test of a frame -/

theorem frameOk_iff (f : Vector Byte 11) : frameOk f = true ↔ ckByte (bodyOf f) = f[10] := by
  simp [frameOk]

theorem frameOk_eq_false_iff (f : Vector Byte 11) : frameOk f = false ↔ ckByte (bodyOf f) ≠ f[10] := by
  rw [Bool.eq_false_iff, Ne, frameOk_iff]

/-- R94 in numbers: byte 10 fits in 7 bits and makes the sum a multiple of 128. -/
theorem frameOk_iff_sum7 (f : Vector Byte 11) :
    frameOk f = true ↔ f[10].toNat ≤ 127 ∧ (sum7 (bodyOf f) + f[10].toNat) % 128 = 0 := by
  rw [frameOk_iff, ← toNat_eq_cksum7_iff, ← Laws.ckByte_toNat, BitVec.toNat_inj, eq_comm]

/-- The low-7-bit sum of a frame is that of its body and byte 10. -/
theorem sum_frame (f : Vector Byte 11) :
    (f.toList.map fun b => b.toNat % 128).sum = sum7 (bodyOf f) + f[10].toNat % 128 := by
  have hf : f.toList = (bodyOf f).toList ++ [f[10]] := by
    rw [← Vector.toList_push]
    exact congrArg Vector.toList (Vector.push_pop_back f).symm
  rw [hf, List.map_append, List.sum_append, ← Laws.sum7_eq]
  simp

/-- R91's test of a frame. -/
theorem frameOk_iff_sum (f : Vector Byte 11) :
    frameOk f = true ↔ f[10].toNat ≤ 127 ∧ (f.toList.map fun b => b.toNat % 128).sum % 128 = 0 := by
  rw [frameOk_iff_sum7, sum_frame]
  omega

theorem frameBody_toList (id : Byte) (p : Vector Byte 7) (n : Nat) :
    (frameBody id p n).toList = hdr0 :: hdr1 :: id :: (pad7 p n).toList := by
  refine List.ext_getElem (by simp) fun i hi _ => ?_
  have hi : i < 10 := by simpa using hi
  interval_cases i <;> simp [frameBody]

/-- The header bytes count 254 in the sum of a built frame's body. -/
theorem sum7_frameBody (id : Byte) (p : Vector Byte 7) (n : Nat) :
    sum7 (frameBody id p n) = 254 + id.toNat % 128 + ((pad7 p n).toList.map fun b => b.toNat % 128).sum := by
  rw [Laws.sum7_eq, frameBody_toList]
  simp [hdr0, hdr1]
  omega

/-- R91's short form of a built frame's checksum: 128 - 254 is 2 modulo 128. -/
theorem buildFrame_ck_toNat (id : Byte) (p : Vector Byte 7) (n : Nat) :
    ((buildFrame id p n)[10].toNat : Int) =
      (2 - (id.toNat % 128 : Nat) - (((pad7 p n).toList.map fun b => b.toNat % 128).sum : Nat)) % 128 := by
  rw [Laws.buildFrame_ck, Laws.ckByte_toNat, cksum7_toNat_int, sum7_frameBody]
  omega

/-- Settles O8. -/
theorem checksumEquivalentForms : Obligations.ChecksumEquivalentForms := by
  refine ⟨fun s => ⟨cksum7_toNat_neg s, cksum7_toNat s, cksum7_eq_complement_add_one s, fun c => ?_⟩, frameOk_iff_sum,
    fun id p n _ => buildFrame_ck_toNat id p n⟩
  rw [← BitVec.toNat_inj, toNat_eq_cksum7_iff, and_iff_right (Nat.le_of_lt_succ c.isLt)]

/-- Settles O9. -/
theorem paddingKeepsThenZeroFills : Obligations.PaddingKeepsThenZeroFills := by
  refine fun p n _ => ⟨Vector.length_toList, fun i h hi => ?_, fun i h hi => ?_⟩ <;> rw [Laws.pad7_get]
  · exact if_pos hi
  · exact if_neg (Nat.not_lt.2 hi)

/-! ## A change of one byte -/

/-- A byte put in place of another moves the sum by the difference of their low 7 bits. -/
theorem sum7_set (s : Vector Byte 10) (i : Nat) (h : i < 10) (b : Byte) :
    sum7 (s.set i b) + low7 s[i] = sum7 s + low7 b := by
  have hi : i < (s.toList.map low7).length := by simpa using h
  have hold := (s.toList.map low7).sum_take_add_sum_drop (i + 1)
  rw [List.sum_take_succ _ _ hi, List.getElem_map, Vector.getElem_toList] at hold
  rw [sum7, Vector.toList_set, List.map_set, List.sum_set, if_pos hi, sum7]
  omega

theorem bodyOf_set_body (f : Vector Byte 11) (i : Nat) (h : i < 10) (b : Byte) :
    bodyOf (f.set i b) = (bodyOf f).set i b := by
  ext j hj
  simp [Laws.bodyOf_get, Vector.getElem_set]

theorem bodyOf_set_last (f : Vector Byte 11) (b : Byte) : bodyOf (f.set 10 b) = bodyOf f := by
  ext j hj
  simp [Laws.bodyOf_get, show 10 ≠ j by omega]

/-- A change of a body byte of a good frame goes unnoticed exactly when it keeps the byte's low 7 bits. -/
theorem frameOk_set_body_iff {f : Vector Byte 11} (hf : frameOk f = true) (i : Nat) (h : i < 10) (b : Byte) :
    frameOk (f.set i b) = true ↔ low7 b = low7 f[i] := by
  obtain ⟨hck, hsum⟩ := (frameOk_iff_sum7 f).1 hf
  have hset := sum7_set (bodyOf f) i h b
  rw [Laws.bodyOf_get] at hset
  rw [frameOk_iff_sum7, bodyOf_set_body f i h, Vector.getElem_set_ne _ _ (by omega)]
  have hb := Laws.low7_eq b
  have hi := Laws.low7_eq f[i]
  omega

/-- Byte 10 is compared on all 8 bits, so no other byte stands for it. -/
theorem frameOk_set_last {f : Vector Byte 11} (hf : frameOk f = true) {b : Byte} (hne : b ≠ f[10]) :
    frameOk (f.set 10 b) = false := by
  rw [frameOk_eq_false_iff, bodyOf_set_last, Vector.getElem_set_self, (frameOk_iff f).1 hf]
  exact hne.symm

theorem low7_eq_iff_xor (a b : Byte) : low7 b = low7 a ↔ (a ^^^ b) &&& 0x7F#8 = 0#8 := by
  have hdistrib : (a ^^^ b) &&& 0x7F#8 = (a &&& 0x7F#8) ^^^ (b &&& 0x7F#8) := by
    ext i
    simp only [BitVec.getElem_and, BitVec.getElem_xor, Bool.and_xor_distrib_right]
  rw [hdistrib, BitVec.xor_eq_zero_iff, eq_comm]
  exact BitVec.toNat_inj

/-- Two different bytes agree on the low 7 bits exactly when they differ in bit 7 alone. -/
theorem low7_eq_iff_of_ne {a b : Byte} (hne : b ≠ a) : low7 b = low7 a ↔ b = a ^^^ 0x80#8 := by
  have hbits : ∀ d : Byte, d ≠ 0#8 → (d &&& 0x7F#8 = 0#8 ↔ d = 0x80#8) := by decide
  have hd : a ^^^ b ≠ 0#8 := fun h => hne (BitVec.xor_eq_zero_iff.1 h).symm
  rw [low7_eq_iff_xor, hbits _ hd, ← BitVec.xor_right_inj a, ← BitVec.xor_assoc, BitVec.xor_self, BitVec.zero_xor]

/-- Settles O10. -/
theorem singleByteChangeDetection : Obligations.SingleByteChangeDetection := by
  refine fun f i h b hf hne => ⟨fun hi hlow => ?_, fun hi => ?_, fun hi => ?_⟩
  · rw [Bool.eq_false_iff, Ne, frameOk_set_body_iff hf i (Nat.lt_succ_of_le hi), low7_eq_iff_xor]
    exact hlow
  · subst hi
    exact frameOk_set_last hf hne
  · rw [frameOk_set_body_iff hf i (Nat.lt_succ_of_le hi), low7_eq_iff_of_ne hne]

end Sys2Proof.Proofs
end

section
/-!
ENCODE, CKSUM and DECODE (R95 to R106): the outcome of each case, the record of each cause, and which case a fault came
from.
-/
namespace Sys2Proof.Proofs
open Sys2Proof.Machine

/-! ## The causes of the codec (R150, R156, R157) -/

section Causes
variable (s : State)

theorem raise_payloadLength : raise .payloadLength s = { s with errc := 1#3, eia := true, port := .err } := by
  simp [raise, respond, record, causeCode, isInvalidArgument]

theorem raise_deviceId : raise .deviceId s = { s with errc := 2#3, eia := true, port := .err } := by
  simp [raise, respond, record, causeCode, isInvalidArgument]

theorem raise_checksumMismatch : raise .checksumMismatch s = { s with errc := 5#3, eck := true, port := .err } := by
  simp [raise, respond, record, causeCode, isInvalidArgument]

theorem raise_malformedResponse : raise .malformedResponse s = { s with errc := 6#3, emf := true, port := .err } := by
  simp [raise, respond, record, causeCode, isInvalidArgument]

end Causes

/-! ## ENCODE -/

section Encode
variable {s t : State}

theorem devidRefused_eq_false_iff :
    devidRefused s = false ↔ (s.cfg.checkDevid = true → 1 ≤ s.devid.toNat ∧ s.devid.toNat ≤ 99) := by
  rw [Bool.eq_false_iff, Ne, Laws.devidRefused_iff, not_and]
  exact imp_congr_right fun _ => by omega

theorem exec_encode_of_long (hlen : 7 < s.plen.toNat) : exec .encode s = .next (raise .payloadLength s) :=
  if_pos hlen

theorem exec_encode_of_refused (hlen : s.plen.toNat ≤ 7) (hid : devidRefused s = true) :
    exec .encode s = .next (raise .deviceId s) :=
  (if_neg (Nat.not_lt.2 hlen)).trans (if_pos hid)

theorem exec_encode_of_accepted (hlen : s.plen.toNat ≤ 7) (hid : devidRefused s = false) :
    exec .encode s = .next (respond .ok (loadFrame (stagedFrame s) s)) :=
  (if_neg (Nat.not_lt.2 hlen)).trans (if_neg (Bool.eq_false_iff.1 hid))

/-- An ENCODE that responds ERR records cause 1 or cause 2, each in its own case (R96, R97). -/
theorem exec_encode_err (h : exec .encode s = .next t) (herr : t.port = .err) :
    (7 < s.plen.toNat ∧ t.errc = 1#3) ∨ (s.plen.toNat ≤ 7 ∧ devidRefused s = true ∧ t.errc = 2#3) := by
  rcases Laws.execEncode_cases s with ⟨hlen, e⟩ | ⟨hlen, hid, e⟩ | ⟨-, -, e⟩ <;> cases e.symm.trans h
  · exact .inl ⟨hlen, rfl⟩
  · exact .inr ⟨Nat.not_lt.1 hlen, hid, rfl⟩
  · cases herr

end Encode

/-- The payload bytes of a built frame (R93). -/
theorem buildFrame_payload (id : Byte) (p : Vector Byte 7) (n i : Nat) (h : i < 7) :
    (buildFrame id p n)[3 + i] = if i < n then p[i] else 0x00#8 := by
  rw [← Laws.bodyOf_get _ _ (by omega), ← Laws.pad7_get p n i h, ← Laws.frameBody_hi id p n i h]
  simp only [Laws.bodyOf_buildFrame]

/-- Settles O11: the frame is the staged one. -/
theorem encodeLoadsFrame : Obligations.EncodeLoadsFrame := by
  intro s hlen hid
  obtain ⟨h0, h1, h2⟩ := buildFrame_header s.devid s.pay s.plen.toNat
  have hpay := buildFrame_payload s.devid s.pay s.plen.toNat
  exact ⟨stagedFrame s, exec_encode_of_accepted hlen (devidRefused_eq_false_iff.2 hid), h0, h1, h2,
    fun i h hi => (hpay i h).trans (if_pos hi), fun i h hi => (hpay i h).trans (if_neg (Nat.not_lt.2 hi)),
    ((frameOk_iff _).1 (frameOk_buildFrame _ _ _)).symm⟩

/-- Settles O12. -/
theorem encodeLengthFault : Obligations.EncodeLengthFault := by
  refine fun s => ⟨fun hlen => ?_, fun t h herr hc => ?_⟩
  · rw [exec_encode_of_long hlen, raise_payloadLength]
  · rcases exec_encode_err h herr with ⟨hlen, -⟩ | ⟨-, -, hc'⟩
    · exact hlen
    · cases hc.symm.trans hc'

/-- Settles O13. -/
theorem encodeDeviceIdFault : Obligations.EncodeDeviceIdFault := by
  refine fun s => ⟨fun hlen hcheck hid => ?_, fun hlen hcheck => ?_, fun t h herr hc => ?_⟩
  · rw [exec_encode_of_refused hlen ((Laws.devidRefused_iff s).2 ⟨hcheck, hid⟩), raise_deviceId]
  · have hid : devidRefused s = false := devidRefused_eq_false_iff.2 (by simp [hcheck])
    exact ⟨_, exec_encode_of_accepted hlen hid, rfl, (buildFrame_header s.devid s.pay s.plen.toNat).2.2⟩
  · rcases exec_encode_err h herr with ⟨-, hc'⟩ | ⟨hlen, hid, -⟩
    · cases hc.symm.trans hc'
    · exact ⟨hlen, (Laws.devidRefused_iff s).1 hid⟩

/-! ## CKSUM -/

/-- Settles O15. -/
theorem cksumWritesOnlyCkcalc : Obligations.CksumWritesOnlyCkcalc :=
  fun _ => ⟨rfl, rfl⟩

/-! ## DECODE -/

section Decode
variable {s t : State}

theorem exec_decode_of_malformed (hbad : s.rxcnt ≠ 11#4 ∨ s.rovr = true) :
    exec .decode s = .next (raise .malformedResponse (invalidate s)) :=
  if_pos hbad

section Full
variable (hcnt : s.rxcnt = 11#4) (hovr : s.rovr = false)
include hcnt hovr

theorem exec_decode_of_full :
    exec .decode s = if frameOk s.rxf then
        .next (respond .ok { captureChecksums s with rxok := true, rstat := statusOf s.rxf })
      else .next (raise .checksumMismatch (invalidate (captureChecksums s))) :=
  if_neg (by simp [hcnt, hovr])

theorem exec_decode_of_good (hf : frameOk s.rxf = true) :
    exec .decode s = .next (respond .ok { captureChecksums s with rxok := true, rstat := statusOf s.rxf }) :=
  (exec_decode_of_full hcnt hovr).trans (if_pos hf)

theorem exec_decode_of_bad (hf : frameOk s.rxf = false) :
    exec .decode s = .next (raise .checksumMismatch (invalidate (captureChecksums s))) :=
  (exec_decode_of_full hcnt hovr).trans (if_neg (Bool.eq_false_iff.1 hf))

end Full

/-- A DECODE that responds ERR records cause 6 or cause 5, each in its own case (R103, R104). -/
theorem exec_decode_err (h : exec .decode s = .next t) (herr : t.port = .err) :
    ((s.rxcnt ≠ 11#4 ∨ s.rovr = true) ∧ t.errc = 6#3) ∨
    (s.rxcnt = 11#4 ∧ s.rovr = false ∧ frameOk s.rxf = false ∧ t.errc = 5#3) := by
  rcases Laws.execDecode_cases s with ⟨hbad, e⟩ | ⟨-, -, -, e⟩ | ⟨hcnt, hovr, hf, e⟩ <;> cases e.symm.trans h
  · exact .inl ⟨hbad, rfl⟩
  · cases herr
  · exact .inr ⟨hcnt, hovr, hf, rfl⟩

theorem exec_decode_ok_iff (h : exec .decode s = .next t) :
    t.port = .ok ↔ s.rxcnt = 11#4 ∧ s.rovr = false ∧ frameOk s.rxf = true := by
  rcases Laws.execDecode_cases s with ⟨hbad, e⟩ | ⟨hcnt, hovr, hf, e⟩ | ⟨-, -, hf, e⟩ <;> cases e.symm.trans h
  · refine iff_of_false (by simp [raise]) fun ⟨hcnt, hovr, _⟩ => ?_
    simp [hcnt, hovr] at hbad
  · exact iff_of_true rfl ⟨hcnt, hovr, hf⟩
  · exact iff_of_false (by simp [raise]) fun ⟨_, _, hf'⟩ => Bool.eq_false_iff.1 hf hf'

/-- DECODE carries DEVID along unread (R105). -/
theorem exec_decode_setDevid (h : exec .decode s = .next t) (d : Byte) :
    exec .decode { s with devid := d } = .next { t with devid := d } := by
  rcases Laws.execDecode_cases s with ⟨hbad, e⟩ | ⟨hcnt, hovr, hf, e⟩ | ⟨hcnt, hovr, hf, e⟩ <;> cases e.symm.trans h
  · exact exec_decode_of_malformed hbad
  · exact exec_decode_of_good hcnt hovr hf
  · exact exec_decode_of_bad hcnt hovr hf

end Decode

/-- Settles O16. -/
theorem decodeAcceptsGoodFrame : Obligations.DecodeAcceptsGoodFrame :=
  fun s hcnt hovr hck => exec_decode_of_good hcnt hovr ((frameOk_iff s.rxf).2 hck)

/-- Settles O17. -/
theorem decodeMalformedFault : Obligations.DecodeMalformedFault := by
  refine fun s => ⟨fun hbad => ?_, fun t h herr hc => ?_⟩
  · rw [exec_decode_of_malformed hbad, raise_malformedResponse]
    rfl
  · rcases exec_decode_err h herr with ⟨hbad, -⟩ | ⟨-, -, -, hc'⟩
    · exact hbad
    · cases hc.symm.trans hc'

/-- Settles O18. -/
theorem decodeChecksumFault : Obligations.DecodeChecksumFault := by
  refine fun s => ⟨fun hcnt hovr hck => ?_, fun t h herr hc => ?_⟩
  · rw [exec_decode_of_bad hcnt hovr ((frameOk_eq_false_iff s.rxf).2 hck), raise_checksumMismatch]
    rfl
  · rcases exec_decode_err h herr with ⟨-, hc'⟩ | ⟨hcnt, hovr, hf, -⟩
    · cases hc.symm.trans hc'
    · exact ⟨hcnt, hovr, (frameOk_eq_false_iff s.rxf).1 hf⟩

/-- Settles O19: the frame test in its form of R91. -/
theorem decodeChecksNothingElse : Obligations.DecodeChecksNothingElse := by
  refine fun s t h => ⟨?_, exec_decode_setDevid h⟩
  rw [exec_decode_ok_iff h, frameOk_iff_sum]

end Sys2Proof.Proofs
end

section
/-!
The round trip of R107: a frame that ENCODE loads, delivered byte by byte into an empty receive buffer, is the frame
that DECODE finds there.
-/
namespace Sys2Proof.Proofs
open Sys2Proof.Machine

/-- The receive buffer holds the first `k` bytes of `f`, and no byte was dropped. -/
structure ReceivedUpTo (f : Vector Byte 11) (k : Nat) (s : State) : Prop where
  bytes : ∀ (i : Nat) (h : i < 11), i < k → s.rxf[i] = f[i]
  count : s.rxcnt.toNat = k
  noOverrun : s.rovr = false

/-- R134: the next byte goes to its place, and the bytes below it stay. -/
theorem rxDeliver_receives {f : Vector Byte 11} {k : Nat} {s : State} (hs : ReceivedUpTo f k s) (hk : k < 11) :
    ReceivedUpTo f (k + 1) (rxDeliver f[k] s) := by
  obtain ⟨hbytes, rfl, hovr⟩ := hs
  rcases Laws.rxDeliver_cases s f[s.rxcnt.toNat] with ⟨hroom, e⟩ | ⟨hfull, -⟩
  · rw [e]
    refine ⟨fun i h hi => ?_, by simp [BitVec.toNat_add]; omega, hovr⟩
    by_cases hlast : s.rxcnt.toNat = i
    · subst hlast
      exact Vector.getElem_set_self _
    · exact (Vector.getElem_set_ne hroom h hlast).trans (hbytes i h (by omega))
  · exact absurd hk hfull

theorem deliverAll_concat (bs : List Byte) (b : Byte) (s : State) :
    deliverAll (bs ++ [b]) s = rxDeliver b (deliverAll bs s) := by
  simp [deliverAll]

theorem deliverAll_take_receives {f : Vector Byte 11} {s : State} (hs : ReceivedUpTo f 0 s) (k : Nat) :
    k ≤ 11 → ReceivedUpTo f k (deliverAll (f.toList.take k) s) := by
  induction k with
  | zero => exact fun _ => hs
  | succ k ih =>
    intro hk
    rw [List.take_succ_eq_append_getElem (by simpa using hk), deliverAll_concat, Vector.getElem_toList]
    exact rxDeliver_receives (ih (Nat.le_of_succ_le hk)) hk

/-- Eleven bytes delivered in order into an empty buffer fill it with the frame. -/
theorem deliverAll_frame (f : Vector Byte 11) {s : State} (hcnt : s.rxcnt = 0#4) (hovr : s.rovr = false) :
    (deliverAll f.toList s).rxf = f ∧ (deliverAll f.toList s).rxcnt = 11#4 ∧ (deliverAll f.toList s).rovr = false := by
  have hempty : ReceivedUpTo f 0 s := ⟨by simp, by simp [hcnt], hovr⟩
  obtain ⟨hbytes, hcount, hnone⟩ := deliverAll_take_receives hempty 11 le_rfl
  rw [List.take_of_length_le (by simp)] at hbytes hcount hnone
  exact ⟨Vector.ext fun i h => hbytes i h h, BitVec.eq_of_toNat_eq hcount, hnone⟩

/-- R66 of a built frame: the status field is the low bits of the first payload byte, or of the padding. -/
theorem statusOf_buildFrame (id : Byte) (p : Vector Byte 7) (n : Nat) :
    statusOf (buildFrame id p n) = if 1 ≤ n then p[0].extractLsb' 0 3 else 0#3 := by
  rw [statusOf, show (buildFrame id p n)[3] = _ from buildFrame_payload id p n 0 (by decide),
    apply_ite (BitVec.extractLsb' 0 3)]
  rfl

/-- Any good frame delivered into an empty buffer is accepted by DECODE, which leaves its values (R102, R106, R134). -/
theorem exec_decode_deliverAll {f : Vector Byte 11} {s : State} (hf : frameOk f = true) (hcnt : s.rxcnt = 0#4)
    (hovr : s.rovr = false) :
    ∃ u, exec .decode (deliverAll f.toList s) = .next u ∧ u.port = .ok ∧ u.rxf = f ∧ u.rxok = true ∧
      u.ckcalc.zeroExtend 8 = f[10] ∧ u.ckrecv = f[10] ∧ u.rstat = statusOf f := by
  obtain ⟨hrxf, hfull, hnone⟩ := deliverAll_frame f hcnt hovr
  refine ⟨_, exec_decode_of_good hfull hnone (by rw [hrxf, hf]), rfl, hrxf, rfl, ?_, ?_, ?_⟩
  · simpa [hrxf, ckByte] using (frameOk_iff f).1 hf
  · simp [hrxf]
  · simp [hrxf]

/-- Settles O20: ENCODE loads the staged frame, which is good. -/
theorem encodeThenDecodeRoundTrip : Obligations.EncodeThenDecodeRoundTrip := by
  refine ⟨fun id p n _ _ _ => frameOk_buildFrame id p n, fun s hlo hhi hlen hcnt hovr => ?_⟩
  have henc := exec_encode_of_accepted hlen (devidRefused_eq_false_iff.2 fun _ => ⟨hlo, hhi⟩)
  have hgood : frameOk (stagedFrame s) = true := frameOk_buildFrame _ _ _
  obtain ⟨u, hdec, hport, hrxf, hrxok, hcalc, hrecv, hstat⟩ :=
    exec_decode_deliverAll (s := respond .ok (loadFrame (stagedFrame s) s)) hgood hcnt hovr
  exact ⟨_, u, henc, rfl, hdec, hport, hrxf, hrxok, hcalc, hrecv, hstat.trans (statusOf_buildFrame _ _ _)⟩

end Sys2Proof.Proofs
end

section
/-!
The limiters in one turn (R111 to R115, R119 to R121): the hold, the TICK with and without a grant, and what the other
turns leave of both.
-/
namespace Sys2Proof.Proofs
open Sys2Proof.Machine

/-! ## The hold -/

/-- Settles O41. -/
theorem acquireHoldsPort : Obligations.AcquireHoldsPort :=
  fun _ => ⟨rfl, rfl⟩

theorem exec_acquireOf (l : Limiter) (s : State) : exec (acquireOf l) s = .next (startAcquire l s) := by
  cases l <;> rfl

/-! ## ENCODE -/

/-- Settles O14: the case that ENCODE takes, and what it writes, are the same with other counters. -/
theorem encodeIgnoresLimiters : Obligations.EncodeIgnoresLimiters := by
  intro s t n f h
  obtain ⟨hn, hf⟩ := exec_frame_limcnt h
  refine ⟨hn, hf, ?_⟩
  rcases Laws.execEncode_cases s with ⟨hlen, e⟩ | ⟨hlen, hid, e⟩ | ⟨hlen, hid, e⟩ <;> cases e.symm.trans h
  · exact exec_encode_of_long hlen
  · exact exec_encode_of_refused (Nat.not_lt.1 hlen) hid
  · exact exec_encode_of_accepted (Nat.not_lt.1 hlen) hid

/-! ## The TICK -/

theorem countDown_eq_ite (c : BitVec 16) : countDown c = if 0 < c.toNat then c - 1#16 else 0#16 := by
  have hzero : c = 0#16 ↔ ¬ 0 < c.toNat := by simp [← BitVec.toNat_inj]
  simp only [countDown, hzero, ite_not]

/-- LIMCNT[l] depends on the two counters only. -/
theorem limcnt_of_frame {s t : State} (h : t.limcntN = s.limcntN ∧ t.limcntF = s.limcntF) (l : Limiter) :
    t.limcnt l = s.limcnt l := by
  obtain ⟨hn, hf⟩ := h
  cases l
  · exact hn
  · exact hf

section Tick
variable {s : State} {l : Limiter}

@[simp] theorem grants_quiet (l : Limiter) (s : State) : grants l (quiet s) = grants l s := by
  cases l <;> rfl

@[simp] theorem limcnt_quiet (l : Limiter) (s : State) : (quiet s).limcnt l = s.limcnt l := by
  cases l <;> rfl

theorem tick_of_grants (h : grants l s = true) :
    tick s = respond .ok { (refill s).setLimcnt l (intervalWord s.cfg l) with acqp := false } := by
  obtain ⟨hdue, rfl⟩ : grantDue (refill s) = true ∧ s.acql = l := by simpa [grants] using h
  simp [tick, grant, hdue]

theorem tick_of_not_grants (h : grants s.acql s = false) : tick s = refill s := by
  have hdue : grantDue (refill s) = false := by simpa [grants] using h
  simp [tick, grant, hdue]

/-- R115: the granted counter is reloaded. -/
theorem limcnt_tick_of_grants (h : grants l s = true) : (tick s).limcnt l = intervalWord s.cfg l := by
  rw [tick_of_grants h]
  exact (limcnt_of_frame ⟨rfl, rfl⟩ l).trans (Laws.setLimcnt_limcnt_self (refill s) l _)

/-- R114: a counter that is not granted counts down, whether the other one is granted or not. -/
theorem limcnt_tick_of_not_grants (h : grants l s = false) : (tick s).limcnt l = countDown (s.limcnt l) := by
  rw [← Laws.refill_limcnt]
  cases hother : grants s.acql s with
  | false => rw [tick_of_not_grants hother]
  | true =>
    have hne : l ≠ s.acql := by rintro rfl; simp [h] at hother
    rw [tick_of_grants hother]
    exact (limcnt_of_frame ⟨rfl, rfl⟩ l).trans (Laws.setLimcnt_limcnt_other (refill s) hne _)

/-- R121: what the other limiter's counter holds decides no grant. -/
theorem grants_setLimcnt_other {m : Limiter} (hne : l ≠ m) (v : BitVec 16) :
    grants l (s.setLimcnt m v) = grants l s := by
  rw [Bool.eq_iff_iff, Laws.grants_iff, Laws.grants_iff, Laws.setLimcnt_limcnt_other s hne]
  simp

end Tick

/-- Settles O43: the counter that ACQL names decides the grant and takes the reload. -/
theorem tickRefillsThenGrants : Obligations.TickRefillsThenGrants := by
  intro s
  have hdue : (if s.acql = .normal then countDown s.limcntN else countDown s.limcntF) = (refill s).limcnt s.acql := by
    cases s.acql <;> rfl
  simp only [turn, ← countDown_eq_ite, hdue]
  rcases Laws.tick_cases s with ⟨hno, e⟩ | ⟨hp, hzero, e⟩
  · rw [e, if_neg (by simpa [grantDue] using hno)]
    rfl
  · rw [e, if_pos ⟨hp, (Laws.refill_limcnt s s.acql).trans hzero⟩]
    cases hl : s.acql <;> simp [respond, refill, State.setLimcnt, intervalWord, interval, rate, hl]

/-- Settles O49: the TICK grants `l` or not alike, and `m`, which ACQL does not name, is never the one granted. -/
theorem limitersAreIndependent : Obligations.LimitersAreIndependent := by
  rintro s t l m v hne rfl ht
  cases ht
  have hm : grants m s = false := by
    rw [Bool.eq_false_iff, Ne, Laws.grants_iff]
    exact fun ⟨_, hl, _⟩ => hne hl
  have hsame := grants_setLimcnt_other (s := s) hne v
  refine ⟨limcnt_tick_of_not_grants hm, _, rfl, ?_⟩
  cases hg : grants s.acql s with
  | true =>
    rw [limcnt_tick_of_grants (hsame.trans hg), limcnt_tick_of_grants hg, tick_of_grants (hsame.trans hg),
      tick_of_grants hg]
    simp
  | false =>
    rw [tick_of_not_grants hg, tick_of_not_grants (s := s.setLimcnt m v) (by simpa [hg] using hsame)]
    simp [Laws.setLimcnt_limcnt_other s hne]

/-! ## The turns of all agents -/

theorem exec_cfg {i : Instr} {s t : State} (h : exec i s = .next t) : t.cfg = s.cfg := by
  rcases Laws.exec_cases h with ⟨-, rfl⟩ | ⟨-, rfl | rfl | ⟨-, -, rfl⟩⟩ | ⟨-, rfl⟩ | ⟨-, rfl⟩ |
    ⟨-, rfl | rfl | ⟨-, -, -, rfl⟩⟩ | ⟨-, rfl⟩ | ⟨-, rfl⟩ | ⟨l, -, rfl⟩ | ⟨-, rfl⟩ <;>
  rfl

theorem transact_cfg {x : HostTx} {s t : State} (h : transact x s = .next t) : t.cfg = s.cfg := by
  rcases Laws.transact_cases h with ⟨_, _, -, -, rfl⟩ | ⟨_, -, -, rfl⟩ | ⟨_, _, -, -, rfl⟩ | ⟨_, _, -, -, rfl⟩ |
    ⟨_, _, _, -, -, rfl⟩ | ⟨_, v, -, -, rfl⟩ | ⟨_, _, -, -, rfl⟩ | ⟨_, _, -, -, -, rfl⟩ | ⟨_, i, -, -, hi⟩
  case inr.inr.inr.inr.inr.inl => simp [Laws.rxDeliver_frame s v]
  case inr.inr.inr.inr.inr.inr.inr.inr => exact exec_cfg hi
  all_goals rfl

/-- R6: no step changes the parameters. -/
theorem turn_cfg {a : Agent} {s t : State} (h : turn a s = .next t) : t.cfg = s.cfg := by
  rcases Laws.turn_cases h with ⟨-, rfl | ⟨x, hs, -, -, hx⟩⟩ | ⟨-, rfl | ⟨b, bs, -, rfl⟩⟩ |
    ⟨-, ⟨-, rfl⟩ | ⟨-, htake⟩⟩ | ⟨-, rfl⟩ | ⟨-, rfl⟩
  · rfl
  · exact (transact_cfg hx :)
  · rfl
  · simp [Laws.rxDeliver_frame _ b]
  · rfl
  · obtain ⟨_, rfl⟩ := Laws.txTake_next s htake
    rfl
  · simp [Laws.tick_frame s]
  · rfl

/-- R111: a turn with the port held keeps the hold and its limiter, or it is the granting TICK, or reset. -/
theorem turn_of_held {a : Agent} {s t : State} (hp : s.acqp = true) (h : turn a s = .next t) :
    (t.acqp = true ∧ t.acql = s.acql) ∨ (a = .tick ∧ grants s.acql s = true ∧ t = tick s) ∨
    (a = .reset ∧ t = resetStep s) := by
  rcases Laws.turn_cases h with ⟨-, rfl | ⟨_, _, hfree, -⟩⟩ | ⟨-, rfl | ⟨b, bs, -, rfl⟩⟩ |
    ⟨-, ⟨-, rfl⟩ | ⟨-, htake⟩⟩ | ⟨ha, rfl⟩ | ⟨ha, rfl⟩
  · exact .inl ⟨hp, rfl⟩
  · simp [hp] at hfree
  · exact .inl ⟨hp, rfl⟩
  · exact .inl (by simp [Laws.rxDeliver_frame _ b, hp])
  · exact .inl ⟨hp, rfl⟩
  · obtain ⟨_, rfl⟩ := Laws.txTake_next s htake
    exact .inl ⟨hp, rfl⟩
  · cases hg : grants s.acql s with
    | true => exact .inr (.inl ⟨ha, rfl, rfl⟩)
    | false => exact .inl (by simp [tick_of_not_grants hg, hp])
  · exact .inr (.inr ⟨ha, rfl⟩)

/-- Settles O44. -/
theorem onlyGrantOrResetEndsHold : Obligations.OnlyGrantOrResetEndsHold := by
  intro a s t hp ht hfree
  rcases turn_of_held hp ht with ⟨hheld, -⟩ | ⟨ha, hg, rfl⟩ | ⟨ha, rfl⟩
  · simp [hfree] at hheld
  · exact .inl ⟨ha, hg, by simp [tick_of_grants hg]⟩
  · exact .inr ⟨ha, rfl⟩

end Sys2Proof.Proofs
end

section
/-!
The limiters over runs of turns (R116 to R118, R122): how many TICKs a limiter is away from its next grant, and how a
run without reset moves that number.
-/
namespace Sys2Proof.Proofs
open Sys2Proof.Machine

/-- R116: the number of the next TICK at which limiter `l` could grant, 1 for the very next one. -/
def ticksToGrant (l : Limiter) (s : State) : Nat := max (s.limcnt l).toNat 1

/-! ## One turn -/

section Turn
variable {l : Limiter} {a : Agent} {s t : State}

theorem ticksToGrant_pos (l : Limiter) (s : State) : 1 ≤ ticksToGrant l s :=
  le_max_right _ _

@[simp] theorem ticksToGrant_quiet (l : Limiter) (s : State) : ticksToGrant l (quiet s) = ticksToGrant l s := by
  simp [ticksToGrant]

/-- R111: the hold leaves the counters. -/
theorem ticksToGrant_startAcquire (l : Limiter) (s : State) :
    ticksToGrant l (startAcquire l s) = ticksToGrant l s := by
  cases l <;> rfl

theorem grants_iff_ticksToGrant :
    grants l s = true ↔ s.acqp = true ∧ s.acql = l ∧ ticksToGrant l s = 1 := by
  rw [Laws.grants_iff, ticksToGrant, max_eq_right_iff]

/-- R113, R115: after its grant a limiter is INTERVAL[l] TICKs away from the next one. -/
theorem ticksToGrant_tick_of_grants (hc : s.cfg.wellFormed = true) (h : grants l s = true) :
    ticksToGrant l (tick s) = interval s.cfg l := by
  obtain ⟨hword, hpos⟩ := Laws.intervalWord_toNat hc l
  rw [ticksToGrant, limcnt_tick_of_grants h, hword, max_eq_left hpos]

/-- R114: a TICK without a grant brings the limiter one TICK nearer, as far as that goes. -/
theorem ticksToGrant_tick_of_not_grants (h : grants l s = false) :
    ticksToGrant l (tick s) = max (ticksToGrant l s - 1) 1 := by
  rw [ticksToGrant, ticksToGrant, limcnt_tick_of_not_grants h, Laws.countDown_toNat]
  omega

/-- What a turn but reset does to a limiter: a TICK grants it or brings it nearer, the other turns leave it (R29). -/
theorem turn_limiter_cases (l : Limiter) (ha : .reset ≠ a) (h : turn a (quiet s) = .next t) :
    (a = .tick ∧ grants l s = true ∧ ticksToGrant l s = 1 ∧
      (s.cfg.wellFormed = true → ticksToGrant l t = interval s.cfg l)) ∨
    (a = .tick ∧ grants l s = false ∧ ticksToGrant l t = max (ticksToGrant l s - 1) 1) ∨
    (a ≠ .tick ∧ ticksToGrant l t = ticksToGrant l s) := by
  by_cases htick : a = .tick
  · subst htick
    cases h
    cases hg : grants l s with
    | true =>
      have hg' : grants l (quiet s) = true := by simpa using hg
      obtain ⟨-, -, hone⟩ := grants_iff_ticksToGrant.1 hg
      exact .inl ⟨rfl, rfl, hone, fun hc => ticksToGrant_tick_of_grants (s := quiet s) hc hg'⟩
    | false =>
      refine .inr (.inl ⟨rfl, rfl, ?_⟩)
      rw [ticksToGrant_tick_of_not_grants (by simpa using hg), ticksToGrant_quiet]
  · have hkept := limcnt_of_frame (limiterCountersWrittenOnlyByTick a _ t h htick ha.symm) l
    exact .inr (.inr ⟨htick, by rw [ticksToGrant, hkept, limcnt_quiet, ticksToGrant]⟩)

/-- A turn that is not yet the limiter's TICK to grant counts it off if it is a TICK, and keeps a hold for it. -/
theorem turn_before_grant (ha : .reset ≠ a) (hlt : [a].count .tick < ticksToGrant l s) (h : turn a (quiet s) = .next t) :
    ticksToGrant l t + [a].count .tick = ticksToGrant l s ∧
    (s.acqp = true → s.acql = l → t.acqp = true ∧ t.acql = l) := by
  have hno : ¬ (a = .tick ∧ grants l s = true) := by
    rintro ⟨rfl, hg⟩
    obtain ⟨-, -, hone⟩ := grants_iff_ticksToGrant.1 hg
    exact absurd hlt (by simp [hone])
  constructor
  · rcases turn_limiter_cases l ha h with ⟨htick, hg, -⟩ | ⟨rfl, -, hnear⟩ | ⟨hne, hkept⟩
    · exact absurd ⟨htick, hg⟩ hno
    · simp only [List.count_singleton_self] at hlt ⊢
      omega
    · simpa [hne] using hkept
  · rintro hp rfl
    rcases turn_of_held (s := quiet s) hp h with hheld | ⟨htick, hg, -⟩ | ⟨hreset, -⟩
    · exact hheld
    · exact absurd ⟨htick, by simpa using hg⟩ hno
    · exact absurd hreset.symm ha

end Turn

/-! ## Runs -/

theorem runTurns_cfg (as : List Agent) : ∀ {s t : State}, runTurns as s = .next t → t.cfg = s.cfg := by
  induction as with
  | nil => intro s t h; cases h; rfl
  | cons a as ih =>
    intro s t h
    obtain ⟨u, hu, hrun⟩ := runTurns_cons_next h
    exact (ih hrun).trans (turn_cfg hu :)

theorem runTurns_concat {a : Agent} (as : List Agent) :
    ∀ {s t : State}, runTurns (as ++ [a]) s = .next t → ∃ u, runTurns as s = .next u ∧ turn a (quiet u) = .next t := by
  induction as with
  | nil =>
    intro s t h
    obtain ⟨u, hu, hrun⟩ := runTurns_cons_next h
    cases hrun
    exact ⟨s, rfl, hu⟩
  | cons b as ih =>
    intro s t h
    obtain ⟨v, hv, hrun⟩ := runTurns_cons_next h
    obtain ⟨u, hu, ht⟩ := ih hrun
    exact ⟨u, (runTurns_cons_of_turn hv).trans hu, ht⟩

/-- A run of fewer TICKs than `ticksToGrant` counts them off, and a hold for the limiter lasts through it. -/
theorem runTurns_before_grant {l : Limiter} (as : List Agent) :
    ∀ {s t : State}, .reset ∉ as → as.count .tick < ticksToGrant l s → runTurns as s = .next t →
      ticksToGrant l t + as.count .tick = ticksToGrant l s ∧
      (s.acqp = true → s.acql = l → t.acqp = true ∧ t.acql = l) := by
  induction as with
  | nil => intro s t _ _ h; cases h; exact ⟨rfl, .intro⟩
  | cons a as ih =>
    intro s t hreset hlt h
    obtain ⟨u, hu, hrun⟩ := runTurns_cons_next h
    obtain ⟨ha, has⟩ : Agent.reset ≠ a ∧ Agent.reset ∉ as := by simpa using hreset
    have hcount : (a :: as).count .tick = [a].count .tick + as.count .tick := List.count_append (l₁ := [a])
    obtain ⟨hnear, hheld⟩ := turn_before_grant (l := l) ha (by omega) hu
    obtain ⟨hnear', hheld'⟩ := ih has (by omega) hrun
    refine ⟨by omega, fun hp hl => ?_⟩
    obtain ⟨hpu, hlu⟩ := hheld hp hl
    exact hheld' hpu hlu

/-- R115: where a pending ACQUIRE is one TICK away from its grant, a TICK grants it. -/
theorem tick_grants_of_ticksToGrant {l : Limiter} {s : State} (hp : s.acqp = true) (hl : s.acql = l)
    (hone : ticksToGrant l s = 1) :
    (tick s).acqp = false ∧ (tick s).port = .ok ∧ (tick s).limcnt l = intervalWord s.cfg l := by
  have hg : grants l s = true := grants_iff_ticksToGrant.2 ⟨hp, hl, hone⟩
  refine ⟨?_, ?_, limcnt_tick_of_grants hg⟩ <;> simp [tick_of_grants hg]

/-- Settles O45: the run's TICKs but the last count down to 1 with the hold in place, and the last one grants. -/
theorem acquireGrantedWithinBound : Obligations.AcquireGrantedWithinBound := by
  refine ⟨⟨rfl, rfl⟩, fun l s => ?_⟩
  have hstart : ticksToGrant l (startAcquire l s) = max (s.limcnt l).toNat 1 := ticksToGrant_startAcquire l s
  refine ⟨_, exec_acquireOf l s, rfl, fun as t hreset ht hlt => ?_, fun as t hreset ht hcount => ?_, fun hinv => ?_⟩
  · exact (runTurns_before_grant as hreset (hstart ▸ hlt) ht).2 rfl rfl
  · obtain ⟨u, hrun, htick⟩ := runTurns_concat as ht
    cases htick
    obtain ⟨hone, hheld⟩ := runTurns_before_grant (l := l) as hreset (by omega) hrun
    obtain ⟨hp, hl⟩ := hheld rfl rfl
    have hcfg : (quiet u).cfg = s.cfg := (runTurns_cfg as hrun :)
    rw [← hcfg]
    exact tick_grants_of_ticksToGrant hp hl (by rw [ticksToGrant_quiet]; omega)
  · obtain ⟨-, hpos⟩ := Laws.intervalWord_toNat hinv.params l
    cases l
    · exact max_le hinv.limcntNBound hpos
    · exact max_le hinv.limcntFBound hpos

/-- Settles O46: after the grant the limiter is INTERVAL[l] TICKs away, and a run of fewer counts them off. -/
theorem grantSpacing : Obligations.GrantSpacing := by
  intro l s s1 s2 as hc hg h1 hreset h2
  cases h1
  have hwait := ticksToGrant_tick_of_grants hc hg
  have hnear : as.count .tick < interval s.cfg l → ticksToGrant l s2 + as.count .tick = interval s.cfg l := fun hlt =>
    (runTurns_before_grant as hreset (hwait ▸ hlt) h2).1.trans hwait
  refine ⟨fun hg2 => ?_, fun hcount hp hl => ?_⟩
  · obtain ⟨-, -, hone⟩ := grants_iff_ticksToGrant.1 hg2
    omega
  · exact grants_iff_ticksToGrant.2 ⟨hp, hl, by omega⟩

/-! ## The grants of a run -/

theorem grantCount_cons (l : Limiter) (a : Agent) (as : List Agent) {s u : State} (h : turn a (quiet s) = .next u) :
    grantCount l (a :: as) s = (if a = .tick ∧ grants l s = true then 1 else 0) + grantCount l as u := by
  simp only [grantCount, h]

/-- A turn that stops is no TICK, so a run with a grant goes on after its first turn. -/
theorem turn_completes_of_grantCount {l : Limiter} {a : Agent} {as : List Agent} {s : State}
    (h : 1 ≤ grantCount l (a :: as) s) : Completes (turn a (quiet s)) := by
  cases a with
  | tick => exact ⟨_, rfl⟩
  | _ =>
    simp only [grantCount, reduceCtorEq, false_and, if_false, Nat.zero_add] at h
    split at h
    · next u hu => exact ⟨u, hu⟩
    all_goals cases h

/-- k grants in a run: the first at its TICK `ticksToGrant` at the earliest, each other INTERVAL[l] after the one
before (R117). -/
theorem grantCount_bound {l : Limiter} (as : List Agent) :
    ∀ {s : State}, s.cfg.wellFormed = true → .reset ∉ as → 1 ≤ grantCount l as s →
      ticksToGrant l s + grantCount l as s * interval s.cfg l ≤ interval s.cfg l + as.count .tick := by
  induction as with
  | nil => intro s _ _ h; cases h
  | cons a as ih =>
    intro s hc hreset hk
    obtain ⟨u, hu⟩ := turn_completes_of_grantCount hk
    obtain ⟨ha, has⟩ : Agent.reset ≠ a ∧ Agent.reset ∉ as := by simpa using hreset
    have hcfg : u.cfg = s.cfg := (turn_cfg hu :)
    have hrest := ih (s := u) (hcfg ▸ hc) has
    rw [hcfg] at hrest
    rw [grantCount_cons l a as hu] at hk ⊢
    rcases turn_limiter_cases l ha hu with ⟨rfl, hg, hone, hfull⟩ | ⟨rfl, hg, hnear⟩ | ⟨hne, hkept⟩
    · rw [if_pos ⟨rfl, hg⟩, List.count_cons_self, Nat.add_mul]
      rcases Nat.eq_zero_or_pos (grantCount l as u) with hzero | hpos
      · rw [hzero]
        omega
      · have := hrest hpos
        have := hfull hc
        omega
    · simp only [hg, reduceCtorEq, and_false, if_false, Nat.zero_add] at hk ⊢
      have := hrest hk
      rw [List.count_cons_self]
      omega
    · simp only [hne, false_and, if_false, Nat.zero_add] at hk ⊢
      rw [List.count_cons_of_ne hne, ← hkept]
      exact hrest hk

/-- Settles O48: the bound on a run's grants, whose first one takes at least one TICK. -/
theorem manyGrantsTakeTheirIntervals : Obligations.ManyGrantsTakeTheirIntervals := by
  refine ⟨fun l s as hc hreset hk => ?_, rfl, rfl⟩
  have hbound := grantCount_bound as hc hreset hk
  have hfirst := ticksToGrant_pos l s
  rw [Nat.sub_one_mul]
  omega

/-- R118: with at most TICK_HZ ticks a limiter is granted at most RATE[l] times. -/
theorem grantCount_le_rate (l : Limiter) {as : List Agent} {s : State} (hc : s.cfg.wellFormed = true)
    (hreset : .reset ∉ as) (hticks : as.count .tick ≤ s.cfg.tickHz) : grantCount l as s ≤ rate l := by
  rcases Nat.eq_zero_or_pos (grantCount l as s) with hzero | hpos
  · omega
  · have hbound := grantCount_bound as hc hreset hpos
    have hfirst := ticksToGrant_pos l s
    have hlt : grantCount l as s * interval s.cfg l < (rate l + 1) * interval s.cfg l := by
      rw [Nat.succ_mul, rate_mul_interval hc]
      omega
    exact Nat.le_of_lt_succ (Nat.lt_of_mul_lt_mul_right hlt)

/-- Settles O47: RATE[l] is 2 for NORMAL and 10 for FAST. -/
theorem windowLaw : Obligations.WindowLaw :=
  fun _ _ hc hreset hticks => ⟨grantCount_le_rate .normal hc hreset hticks, grantCount_le_rate .fast hc hreset hticks⟩

end Sys2Proof.Proofs
end

section
/-!
The streams and the system operations (R130 to R139): a delivery to a buffer with room and to a full one, a take of each
byte of the frame, NOP, RXCLR, CLRERR and SRST, and the reserved word.
-/
namespace Sys2Proof.Proofs
open Sys2Proof.Machine

/-! ## Deliveries -/

section Deliveries
variable {s : State}

theorem rxDeliver_of_room (h : s.rxcnt.toNat < 11) (b : Byte) :
    rxDeliver b s = { s with rxf := s.rxf.set s.rxcnt.toNat b h, rxcnt := s.rxcnt + 1#4 } :=
  dif_pos h

theorem rxDeliver_of_full (h : ¬ s.rxcnt.toNat < 11) (b : Byte) : rxDeliver b s = { s with rovr := true } :=
  dif_neg h

theorem transact_wr_of_rxpush {a : Addr} (h : locOf a = .rxpush) (b : Byte) :
    transact (.wr a b) s = .next (respond .ok (rxDeliver b s)) := by
  simp only [transact, hostWrite, h]

end Deliveries

/-- Settles O25: LINK-RX's turn takes the byte off its queue and delivers it. -/
theorem deliveryStoresOrOverruns : Obligations.DeliveryStoresOrOverruns := by
  intro s b bs hrx
  refine ⟨fun hroom => ?_, fun hfull => ?_⟩
  · rw [turn, linkRxTurn_of_cons hrx, rxDeliver_of_room (by exact hroom)]
  · rw [turn, linkRxTurn_of_cons hrx, rxDeliver_of_full (by exact hfull)]

/-- Settles O29: both are the delivery of the byte, and LINK-RX's turn leaves the queue as it was before the byte. -/
theorem rxpushIsDelivery : Obligations.RxpushIsDelivery := by
  refine fun s b => ⟨rxDeliver b s, transact_wr_of_rxpush rfl b, ?_⟩
  rw [turn]
  exact linkRxTurn_of_cons rfl

/-! ## Takes -/

theorem bne_ten_eq_decide_toNat (i : BitVec 4) : (i != 10#4) = decide (i.toNat ≠ 10) := by
  rw [Bool.eq_iff_iff, bne_iff_ne, decide_eq_true_iff, ne_eq, ← BitVec.toNat_inj, BitVec.toNat_ofNat]

/-- R136: a take of a frame on offer; its last byte, at index 10, ends the offer. -/
theorem txTake_of_offer {s : State} (hi : s.txidx.toNat < 11) (hv : s.txv = true) :
    txTake s = .next { s with
      line := some s.txf[s.txidx.toNat], txidx := s.txidx + 1#4, txv := decide (s.txidx.toNat ≠ 10) } := by
  obtain ⟨t, ht⟩ := txTake_completes hi
  obtain ⟨_, rfl⟩ := Laws.txTake_next s ht
  rw [ht, hv, Bool.true_and, bne_ten_eq_decide_toNat]

/-- Settles O27. -/
theorem takeReturnsNextFrameByte : Obligations.TakeReturnsNextFrameByte :=
  ⟨fun _ hidle => linkTxTurn_of_idle hidle, fun _ hi hv => (linkTxTurn_of_offer hv).trans (txTake_of_offer hi hv)⟩

/-! ## The system operations -/

/-- Settles O21. -/
theorem nopWritesNothing : Obligations.NopWritesNothing :=
  fun _ => rfl

/-- Settles O22. -/
theorem rxclrEmptiesReceiveSide : Obligations.RxclrEmptiesReceiveSide :=
  fun _ => rfl

/-- Settles O23. -/
theorem clrerrClearsRecord : Obligations.ClrerrClearsRecord :=
  fun _ => rfl

/-- Settles O24. -/
theorem srstKeepsOnlyLimiterCounters : Obligations.SrstKeepsOnlyLimiterCounters :=
  fun _ => rfl

/-! ## The reserved word -/

section Reserved
variable {s : State}

theorem startOperation_of_error {w : Byte} {e : DecodeError} (h : decode w = .error e) :
    startOperation w s = .next (raise .operationWord s) := by
  simp only [startOperation, h]

theorem transact_wr_of_cmd {a : Addr} (h : locOf a = .cmd) (w : Byte) : transact (.wr a w) s = startOperation w s := by
  simp only [transact, hostWrite, h]

/-- R150, R156, R157: the record of cause 3. -/
theorem raise_operationWord : raise .operationWord s = { s with errc := 3#3, eia := true, port := .err } := by
  simp [raise, respond, record, causeCode, isInvalidArgument]

end Reserved

/-- Settles O4: no operation has a word in the reserved ranges, so the write to CMD takes cause 3. -/
theorem reservedWordFaultsAndStartsNothing : Obligations.ReservedWordFaultsAndStartsNothing := by
  intro s w hw
  rw [transact_wr_of_cmd rfl, startOperation_of_error (decode_of_reserved hw), raise_operationWord]

end Sys2Proof.Proofs
end

section
/-!
Faults and the record (R150 to R161): what a fault with each cause leaves, what a transaction can do to the record, and
the order of checking.
-/
namespace Sys2Proof.Proofs
open Sys2Proof.Machine

/-! ## The causes -/

/-- R150: no cause has code 0, the code of no fault. -/
theorem causeCode_pos (c : Cause) : 1 ≤ (causeCode c).toNat := by
  cases c <;> decide

/-- R157: the class `InvalidArgument` is the codes 1 to 4. -/
theorem isInvalidArgument_eq (c : Cause) : isInvalidArgument c = decide ((causeCode c).toNat ≤ 4) := by
  cases c <;> rfl

theorem beq_checksumMismatch (c : Cause) : (c == .checksumMismatch) = decide ((causeCode c).toNat = 5) := by
  cases c <;> rfl

theorem beq_malformedResponse (c : Cause) : (c == .malformedResponse) = decide ((causeCode c).toNat = 6) := by
  cases c <;> rfl

/-- R156, R157: the record of a fault, by its cause code. -/
theorem record_eq (c : Cause) (s : State) :
    record c s = { s with
      errc := causeCode c
      eia := s.eia || decide ((causeCode c).toNat ≤ 4)
      eck := s.eck || decide ((causeCode c).toNat = 5)
      emf := s.emf || decide ((causeCode c).toNat = 6) } := by
  rw [record, isInvalidArgument_eq, beq_checksumMismatch, beq_malformedResponse]

/-! ## The effects of a fault -/

/-- R159: what a fault does before its record. Causes 5 and 6 are DECODE's, with the effects that R102 lists; the others
do nothing. -/
def faultEffect : Cause → State → State
  | .checksumMismatch, s => invalidate (captureChecksums s)
  | .malformedResponse, s => invalidate s
  | .payloadLength, s | .deviceId, s | .operationWord, s | .registerAccess, s => s

/-- R159: the effects of a fault, by its cause code. -/
theorem faultEffect_eq (c : Cause) (s : State) :
    faultEffect c s = { s with
      rxok := s.rxok && decide ((causeCode c).toNat ≤ 4)
      rstat := if (causeCode c).toNat ≤ 4 then s.rstat else 0#3
      ckcalc := if (causeCode c).toNat = 5 then cksum7 s.rxf.pop else s.ckcalc
      ckrecv := if (causeCode c).toNat = 5 then s.rxf[10] else s.ckrecv } := by
  cases c <;> simp [faultEffect, causeCode, invalidate, captureChecksums, bodyOf]

/-- No fault touches the hold or the environment (R161). -/
theorem faultEffect_frame (c : Cause) (s : State) :
    (faultEffect c s).acqp = s.acqp ∧ (faultEffect c s).env = s.env := by
  rw [faultEffect_eq]
  exact ⟨rfl, rfl⟩

/-! ## What a transaction can do to the record -/

/-- The response of a fault to a write, or to a read (R155). -/
def ErrResponse (p : PortOut) : Prop := p = .err ∨ p = .errData 0x00#8

theorem not_errResponse_ok : ¬ErrResponse .ok := by simp [ErrResponse]

theorem not_errResponse_okData (d : Byte) : ¬ErrResponse (.okData d) := by simp [ErrResponse]

theorem not_errResponse_hold : ¬ErrResponse .hold := by simp [ErrResponse]

/-- ERRC and the class flags are the same in both states. -/
def RecordKept (s t : State) : Prop :=
  t.errc = s.errc ∧ t.eia = s.eia ∧ t.eck = s.eck ∧ t.emf = s.emf

/-- `t` is what a fault of some cause leaves of `s`: the effects of the cause, its record and an ERR response. -/
def FaultOf (s t : State) : Prop := ∃ c p, ErrResponse p ∧ t = respond p (record c (faultEffect c s))

theorem faultOf_raise (c : Cause) (s : State) : FaultOf s (raise c (faultEffect c s)) :=
  ⟨c, .err, .inl rfl, rfl⟩

theorem faultOf_raiseOnRead (c : Cause) (s : State) : FaultOf s (raiseOnRead c (faultEffect c s)) :=
  ⟨c, .errData 0x00#8, .inr rfl, rfl⟩

/-- What a transaction did to the record: it faulted; or it succeeded and is one of those that clear the record; or it
succeeded and left the record, and TXOVW too unless it is ENCODE (R155, R158, log 7). -/
inductive RecordOutcome (clears isEncode : Prop) (s t : State) : Prop where
  | fault (h : FaultOf s t)
  | cleared (hok : ¬ErrResponse t.port) (h : clears)
  | kept (hok : ¬ErrResponse t.port) (hrec : RecordKept s t) (hov : isEncode ∨ t.txovw = s.txovw)

theorem RecordOutcome.mono {c e c' e' : Prop} {s t : State} (h : RecordOutcome c e s t) (hc : c → c') (he : e → e') :
    RecordOutcome c' e' s t := by
  cases h with
  | fault h => exact .fault h
  | cleared hok h => exact .cleared hok (hc h)
  | kept hok hrec hov => exact .kept hok hrec (hov.imp_left he)

/-- A delivery leaves the record and TXOVW (R134, R135). -/
theorem rxDeliver_frame_record (b : Byte) (s : State) :
    RecordKept s (rxDeliver b s) ∧ (rxDeliver b s).txovw = s.txovw := by
  rcases Laws.rxDeliver_cases s b with ⟨_, e⟩ | ⟨-, e⟩ <;> rw [e] <;> exact ⟨⟨rfl, rfl, rfl, rfl⟩, rfl⟩

theorem exec_recordOutcome {i : Instr} {s t : State} (h : exec i s = .next t) :
    RecordOutcome (i = .clrerr ∨ i = .srst) (i = .encode) s t := by
  rcases Laws.exec_cases h with ⟨-, rfl⟩ | ⟨hi, rfl | rfl | ⟨-, -, rfl⟩⟩ | ⟨-, rfl⟩ | ⟨-, rfl⟩ |
    ⟨-, rfl | rfl | ⟨-, -, -, rfl⟩⟩ | ⟨-, rfl⟩ | ⟨hi, rfl⟩ | ⟨l, -, rfl⟩ | ⟨hi, rfl⟩
  · exact .kept not_errResponse_ok ⟨rfl, rfl, rfl, rfl⟩ (.inr rfl)
  · exact .fault (faultOf_raise .payloadLength s)
  · exact .fault (faultOf_raise .deviceId s)
  · exact .kept not_errResponse_ok ⟨rfl, rfl, rfl, rfl⟩ (.inl hi)
  · exact .kept not_errResponse_ok ⟨rfl, rfl, rfl, rfl⟩ (.inr rfl)
  · exact .kept not_errResponse_ok ⟨rfl, rfl, rfl, rfl⟩ (.inr rfl)
  · exact .fault (faultOf_raise .malformedResponse s)
  · exact .fault (faultOf_raise .checksumMismatch s)
  · exact .kept not_errResponse_ok ⟨rfl, rfl, rfl, rfl⟩ (.inr rfl)
  · exact .kept not_errResponse_ok ⟨rfl, rfl, rfl, rfl⟩ (.inr rfl)
  · exact .cleared not_errResponse_ok (.inl hi)
  · exact .kept not_errResponse_hold ⟨rfl, rfl, rfl, rfl⟩ (.inr rfl)
  · exact .cleared not_errResponse_ok (.inr hi)

/-- An operation's word is written to CMD at address 0x00 only, so the transactions are told apart as the operations. -/
theorem transact_recordOutcome {x : HostTx} {s t : State} (h : transact x s = .next t) :
    RecordOutcome (x = .wr 0x00#6 0x06#8 ∨ x = .wr 0x00#6 0x0F#8) (x = .wr 0x00#6 0x01#8) s t := by
  rcases Laws.transact_cases h with ⟨_, d, -, -, rfl⟩ | ⟨_, -, -, rfl⟩ | ⟨_, _, -, -, rfl⟩ | ⟨_, _, -, -, rfl⟩ |
    ⟨_, _, _, -, -, rfl⟩ | ⟨_, v, -, -, rfl⟩ | ⟨_, _, -, -, rfl⟩ | ⟨_, _, -, -, -, rfl⟩ | ⟨a, i, rfl, ha, hi⟩
  · exact .kept (not_errResponse_okData d) ⟨rfl, rfl, rfl, rfl⟩ (.inr rfl)
  · exact .fault (faultOf_raiseOnRead .registerAccess s)
  · exact .kept not_errResponse_ok ⟨rfl, rfl, rfl, rfl⟩ (.inr rfl)
  · exact .kept not_errResponse_ok ⟨rfl, rfl, rfl, rfl⟩ (.inr rfl)
  · exact .kept not_errResponse_ok ⟨rfl, rfl, rfl, rfl⟩ (.inr rfl)
  · obtain ⟨hrec, hov⟩ := rxDeliver_frame_record v s
    exact .kept not_errResponse_ok hrec (.inr hov)
  · exact .fault (faultOf_raise .registerAccess s)
  · exact .fault (faultOf_raise .operationWord s)
  · obtain rfl := Laws.locOf_eq_cmd ha
    have writesWord : ∀ j : Instr, i = j → HostTx.wr 0x00#6 (encode i) = .wr 0x00#6 (encode j) := fun j hj => hj ▸ rfl
    exact (exec_recordOutcome hi).mono (Or.imp (writesWord .clrerr) (writesWord .srst)) (writesWord .encode)

theorem faultOf_of_errResponse {x : HostTx} {s t : State} (h : transact x s = .next t) (herr : ErrResponse t.port) :
    FaultOf s t := by
  cases transact_recordOutcome h with
  | fault hf => exact hf
  | cleared hok _ => exact absurd herr hok
  | kept hok _ _ => exact absurd herr hok

/-! ## The obligations on the record -/

/-- Settles O37: a fault is its cause's effects and record, each written by the cause code. -/
theorem faultsArePrecise : Obligations.FaultsArePrecise := by
  intro x s t h herr
  obtain ⟨c, p, -, rfl⟩ := faultOf_of_errResponse h herr
  refine ⟨causeCode c, causeCode_pos c, causeCode_le c, ?_⟩
  rw [record_eq, faultEffect_eq]
  rfl

/-- Settles O38. -/
theorem recordPersistsOverSuccess : Obligations.RecordPersistsOverSuccess := by
  intro x s t h herr herrData hclr hsrst
  cases transact_recordOutcome h with
  | fault hf =>
    obtain ⟨_, _, herr', rfl⟩ := hf
    exact absurd herr' (not_or.2 ⟨herr, herrData⟩)
  | cleared _ hx => exact absurd hx (not_or.2 ⟨hclr, hsrst⟩)
  | kept _ hrec hov =>
    obtain ⟨hc, hia, hck, hmf⟩ := hrec
    exact ⟨hc, hia, hck, hmf, hov.resolve_left⟩

/-- Settles O40: no fault touches the hold or the host's queue. -/
theorem faultLeavesPortFree : Obligations.FaultLeavesPortFree := by
  intro x y hs s t hfree hq h herr
  obtain ⟨c, p, -, rfl⟩ := faultOf_of_errResponse h herr
  obtain ⟨hacqp, henv⟩ := faultEffect_frame c s
  have hfree' : (respond p (record c (faultEffect c s))).acqp = false := hacqp.trans hfree
  exact ⟨hfree', hostTurn_of_cons hfree' ((congrArg Env.host henv).trans hq)⟩

/-! ## The order of checking -/

/-- A write of an operation's word to CMD runs the operation. -/
theorem transact_wr_encode (i : Instr) (s : State) : transact (.wr 0x00#6 (encode i)) s = exec i s :=
  (transact_wr_of_cmd rfl _).trans (startOperation_of_ok (decode_encode i))

/-- Settles O39: the port, CMD, ENCODE and DECODE each take the first cause whose check fails. -/
theorem faultPriority : Obligations.FaultPriority := by
  refine ⟨fun s a v h => ?_, fun s a h => ?_, fun s w e h => ?_, fun s hlen => ?_, fun s hlen hcheck hid => ?_,
    fun s hbad => ?_, fun s hcnt hovr hf => ?_⟩
  · exact ⟨_, transact_wr_of_access h v, rfl⟩
  · exact ⟨_, transact_rd_of_none (readAddr_of_access h), rfl⟩
  · exact ⟨_, (transact_wr_of_cmd rfl w).trans (startOperation_of_error h), rfl⟩
  · exact ⟨_, (transact_wr_encode .encode s).trans (exec_encode_of_long hlen), rfl⟩
  · have hrefused : devidRefused s = true := (Laws.devidRefused_iff s).2 ⟨hcheck, hid⟩
    exact ⟨_, (transact_wr_encode .encode s).trans (exec_encode_of_refused hlen hrefused), rfl⟩
  · exact ⟨_, (transact_wr_encode .decode s).trans (exec_decode_of_malformed hbad), rfl, rfl, rfl⟩
  · exact ⟨_, (transact_wr_encode .decode s).trans (exec_decode_of_bad hcnt hovr hf), rfl⟩

end Sys2Proof.Proofs
end

section
/-!
Reset (R180 to R182): the values it leaves, and that it puts both limiters one TICK away from a grant.
-/
namespace Sys2Proof.Proofs
open Sys2Proof.Machine

/-- R28, R181: no fault is recorded after reset. -/
theorem errflgView_reset : errflgView State.reset = 0x00#8 := by
  decide

/-- R25, R181: TOKN and TOKF are the two bits set. -/
theorem statusView_reset : statusView State.reset = 0x60#8 := by
  decide

/-- Settles O52: the registers by State.reset's own fields, the two views by their lemmas. -/
theorem resetLeavesEverythingZero : Obligations.ResetLeavesEverythingZero :=
  ⟨rfl, rfl, rfl, rfl, rfl, rfl, rfl, rfl, rfl, rfl, rfl, rfl, rfl, rfl, errflgView_reset, rfl, rfl, rfl, rfl,
    statusView_reset⟩

theorem turn_reset (s : State) : turn .reset s = .next (resetStep s) :=
  rfl

/-- Settles O53: the reset turn is the reset step. -/
theorem resetStepRestoresReset : Obligations.ResetStepRestoresReset :=
  turn_reset

/-- R182: reset leaves both counters at 0, so either limiter can grant at the very next TICK. -/
theorem ticksToGrant_resetStep (l : Limiter) (s : State) : ticksToGrant l (resetStep s) = 1 := by
  cases l <;> rfl

/-- Settles O54: the ACQUIRE leaves the counters as reset left them, one TICK away from the grant. -/
theorem firstAcquireAfterReset : Obligations.FirstAcquireAfterReset := by
  intro s l
  have hone : ticksToGrant l (startAcquire l (resetStep s)) = 1 :=
    (ticksToGrant_startAcquire l _).trans (ticksToGrant_resetStep l s)
  exact ⟨_, _, _, turn_reset s, exec_acquireOf l _, rfl, rfl, tick_grants_of_ticksToGrant rfl rfl hone⟩

end Sys2Proof.Proofs
end
